-- ==== Sys2Proof/Word.lean ====
section
/-! DEFINITION. The byte and the 16-bit field of the bay link and of the image, and the plainest arithmetic on
numbers that the manual's Conventions name (00_scope.md). -/

namespace Sys2Proof

/-- One byte of a frame or of the configuration image. -/
abbrev Byte := BitVec 8

/-- A 16-bit field: an order's argument, a CRC. -/
abbrev Half := BitVec 16

/-- The byte that holds a number taken modulo 256. -/
abbrev byteOf (n : Nat) : Byte := BitVec.ofNat 8 n

/-- The high byte of a two-byte field (multi-byte fields go high byte first, 00_scope.md Conventions). -/
abbrev hiByte (n : Nat) : Byte := BitVec.ofNat 8 (n / 256)

/-- The low byte of a two-byte field. -/
abbrev loByte (n : Nat) : Byte := BitVec.ofNat 8 n

/-- Ceil of a quotient (00_scope.md Conventions, Arithmetic). -/
def ceilDiv (a b : Nat) : Nat := (a + b - 1) / b

/-- Clamping to a range (00_scope.md Conventions, Arithmetic). -/
def clampNat (lo hi n : Nat) : Nat := if n < lo then lo else if hi < n then hi else n

/-- Clamping a signed value to a range (00_scope.md Conventions, Arithmetic). -/
def clampInt (lo hi n : Int) : Int := if n < lo then lo else if hi < n then hi else n

end Sys2Proof
end

