-- ==== Sys2Proof/Syntax.lean ====
section
/-! DEFINITION. The commands of one Zavoren 418 station: one constructor of `Instr` per row of
spec/opcode_table.json, in the table's order. The table gives no row any field; the operands are what the row's
own rule says the step depends on beside the station's state (which pump, which level, which frame). -/

namespace Sys2Proof

/-- The two pumps of a station (07_sump_pumps.md). -/
inductive PumpId where
  | p1 | p2
deriving DecidableEq, Repr

/-- The partner of a pump (07_sump_pumps.md). -/
def PumpId.other : PumpId → PumpId
  | .p1 => .p2
  | .p2 => .p1

/-- The two vehicle loops (R153). -/
inductive LoopId where
  | loop1 | loop2
deriving DecidableEq, Repr

/-- The four lamp channels LMP0 to LMP3 (08_lamp_channels.md). -/
inductive ChannelId where
  | ch0 | ch1 | ch2 | ch3
deriving DecidableEq, Repr

/-- The two supply-sense inputs (R72). -/
inductive SupplyLine where
  | mainsOk | standbyOk
deriving DecidableEq, Repr

/-- The two positions of the key switch (R164). -/
inductive KeyPosition where
  | autoKey | localKey
deriving DecidableEq, Repr

/-- A complete frame as the receiver gathered it (Figure 2-2): the kind and sender byte, the payload (its length
is byte 2 of the frame) and the two received CRC bytes. -/
structure RxFrame where
  header  : Byte
  payload : List Byte
  crc     : Half
deriving DecidableEq, Repr

/-- The commands. Each constructor is a row of spec/opcode_table.json. -/
inductive Instr where
  | coldReset
  | resetRelease
  | imageReadComplete (image : List Byte)
  | sampleTimerExpiry
  | dischargeComplete
  | probeTrip (captured : Nat)
  | probeOverflow
  | historyTimerExpiry
  | linkIdleTimeout
  | badCharacter
  | lengthByteError (n : Byte)
  | frameRejected (frame : RxFrame)
  | statusArrival (sender : Nat) (payload : List Byte)
  | claimArrival (sender : Nat) (payload : List Byte)
  | busyArrival (sender : Nat) (payload : List Byte)
  | doneArrival (sender : Nat) (payload : List Byte)
  | reportArrival (sender : Nat) (payload : List Byte)
  | orderIgnored (sender : Nat) (target code : Byte) (arg : Half)
  | unknownOrder (code : Byte) (arg : Half)
  | query (arg : Half)
  | describe (arg : Half)
  | counters (arg : Half)
  | gateClose (arg : Half)
  | gateOpen (arg : Half)
  | gateHold (arg : Half)
  | gateRelease (arg : Half)
  | pumpInhibit (arg : Half)
  | pumpRelease (arg : Half)
  | clearFault (arg : Half)
  | clearFaultGate
  | lampTest (arg : Half)
  | restart (arg : Half)
  | transmissionBegin
  | collision
  | frameSent
  | statusPeriodExpiry
  | stageHoldExpiry
  | supplySenseChange (line : SupplyLine) (asserted : Bool)
  | budgetTimerExpiry
  | listenInExpiry
  | claimWindowExpiry
  | surgeTimerExpiry
  | holderTimeout (station : Nat)
  | runSenseChange (pump : PumpId) (present : Bool)
  | runSenseTimerExpiry (pump : PumpId)
  | thermalInputChange (pump : PumpId) (asserted : Bool)
  | thermalReleaseExpiry (pump : PumpId)
  | runLimitExpiry (pump : PumpId)
  | restLimitExpiry (pump : PumpId)
  | exerciseDue (pump : PumpId)
  | exerciseTimeExpiry (pump : PumpId)
  | floatAsserted
  | floatReleased
  | floatTimerExpiry
  | floatSurgeExpiry (pump : PumpId)
  | pwmPeriodBoundary
  | daylightChange (asserted : Bool)
  | flashPhaseExpiry
  | lampTestExpiry
  | loopChange (loop : LoopId) (occupied : Bool)
  | stuckTimerExpiry (loop : LoopId)
  | dwellTimerLimit
  | warningTimerExpiry
  | blockedTimerExpiry
  | travelTimerExpiry
  | reopenTimerLimit
  | localSurgeExpiry
  | downLimitChange (asserted : Bool)
  | upLimitChange (asserted : Bool)
  | keyChange (position : KeyPosition)
  | pbLower
  | pbRaise
  | pbStop
  | goodCharacter (b : Byte)
  | startBit
  | lineReturnToMark
  | activeCountReached (channel : ChannelId)
deriving DecidableEq, Repr

end Sys2Proof
end

