-- ==== Sys2Proof/WellFormed.lean ====
section
/-! DEFINITION. The checks a command meets by the form of its operands alone: the ranges the manual gives to an
image, a captured count, a sender, a payload, an order code. What a command needs of the station's state is no
part of this. -/

namespace Sys2Proof

/-- A station number, 0-7 (Terms, "Station number"). -/
def isStation (n : Nat) : Bool := decide (n < 8)

/-- An order code that some order carries, 1-12 (Figure 10-2). -/
def isOrderCode (code : Byte) : Bool := decide (1 ≤ code.toNat ∧ code.toNat ≤ 12)

/-- The operands lie in the ranges the row's rule gives them. -/
def Instr.wellFormed : Instr → Bool
  | .imageReadComplete image => decide (image.length = 128)
  | .probeTrip captured => decide (captured ≤ 4095)
  | .lengthByteError n => decide (24 < n.toNat)
  | .frameRejected f => decide (f.payload.length ≤ 24)
  | .statusArrival sender payload => isStation sender && decide (payload.length = 15)
  | .claimArrival sender payload => isStation sender && decide (payload.length = 4)
  | .busyArrival sender payload => isStation sender && decide (payload.length = 3)
  | .doneArrival sender payload => isStation sender && decide (payload.length = 2)
  | .reportArrival sender payload =>
      isStation sender && decide (3 ≤ payload.length ∧ payload.length ≤ 24)
  | .orderIgnored sender _ _ _ => isStation sender || decide (sender = 15)
  | .unknownOrder code _ => !isOrderCode code
  | .clearFault arg => decide (arg.toNat ≠ 3)
  | .holderTimeout station => isStation station
  | _ => true

end Sys2Proof
end

