-- ==== Sys2Proof/Decode.lean ====
section
/-! DEFINITION. The command that a word spells by the bits of spec/opcode_table.json. Every row of the table has
an empty list of fields and no fixed bits, so no word spells a command. (What the station decodes is a frame of
characters: Machine/Receive.lean.) -/

namespace Sys2Proof

/-- No row of the table gives bits, so a word of any width spells no command. -/
def decodeTableWord (_nbits _w : Nat) : Option Instr := none

end Sys2Proof
end

