-- ==== Sys2Proof/Config.lean ====
section
/-! DEFINITION. The constants of the part (00_scope.md, 02, 11) and the free values: opaque constants with no body,
so that nothing can be proved of what they are. Each is applied to the counter `free` of the state. -/

namespace Sys2Proof

/-- DESIGN CHOICE (log 10), safe: the bytes of a CLAIM or BUSY payload that the manual does not state, because no
entry is served when the payload is gathered (R115). -/
opaque Config.freeByte : Nat → Byte

/-- DESIGN CHOICE (log 3), safe: the rank that orders events which fall in one Fref period, where the manual says
that either order is possible (R49, R69, R83, R97, R104, R110, R132, R155). -/
opaque Config.freeRank : Nat → Instr → Nat

/-- The largest value of the station's 16-bit saturating counts (R8, R31, R51). -/
def Config.countMax : Nat := 65535

/-- Sixteenths of a bit time in one bit time (R21). -/
def Config.bitTime : Nat := 16

/-- Where the line idle time holds, in sixteenths of a bit time: 255 bit times (R24). -/
def Config.idleMax : Nat := 255 * 16

/-- The sixteenths of a bit time of one 10-bit character (R22). -/
def Config.characterTime : Nat := 160

/-- SYNC, byte 0 of every frame (Figure 2-2). -/
def Config.sync : Byte := 0xC6

/-- The service tool's sender number (Terms, "Service tool"). -/
def Config.toolNumber : Nat := 15

/-- An UNKNOWN depth as the bay link carries it (00_scope.md Conventions, R45). -/
def Config.unknownDepth : Nat := 65535

/-- The part code that DESCRIBE reports (R173). -/
def Config.partCode : Nat := 418

/-- The run-sense timer's limit in ms (R125). -/
def Config.runSenseLimit : Nat := 2000

/-- The thermal release timer's limit in ms (R126). -/
def Config.thermalLimit : Nat := 60000

/-- The lamp-test timer's limit in ms (R147). -/
def Config.lampTestLimit : Nat := 10000

/-- The flash limits in FALLBACK in ms (R150). -/
def Config.fallbackFlash : Nat := 1000

/-- The Fref periods of the EEPROM read: 1048 SPI clocks at Fref / 4 (R175). -/
def Config.readPeriods : Nat := 1048 * 4

end Sys2Proof
end

