-- ==== Sys2Proof/Machine/State.lean ====
section
/-! DEFINITION. The state of one Zavoren 418 station as plain data: every piece of state the manual's figures give
its eleven blocks, the debounce filters of R1, the clock dividers, the queue of waiting commands and the counter
of free values; the reasons a step can stop; and the state right after a cold reset. -/

namespace Sys2Proof.Machine

/-! ### Faults and refusals -/

/-- No command of the station stops with a fault: the manual gives every fault of a probe, a pump or the gate as a
state that the station goes on from. The type has no constructor, so nothing raises it (safe). -/
inductive Fault where
deriving DecidableEq, Repr

/-- Why a command has no meaning in the model. -/
inductive Refusal where
  /-- Raised by an arm of `exec` whose command is not modelled yet; safe. No arm raises it now. -/
  | notModelled (mnemonic : String)
deriving DecidableEq, Repr

/-! ### Fixed numbers of like things -/

/-- One value per pump. -/
structure PerPump (α : Type) where
  p1 : α
  p2 : α
deriving DecidableEq, Repr

/-- The value of one pump. -/
def PerPump.get {α : Type} (x : PerPump α) : PumpId → α
  | .p1 => x.p1
  | .p2 => x.p2

/-- The pair with one pump's value changed. -/
def PerPump.upd {α : Type} (x : PerPump α) (p : PumpId) (f : α → α) : PerPump α :=
  match p with
  | .p1 => { x with p1 := f x.p1 }
  | .p2 => { x with p2 := f x.p2 }

/-- One value per vehicle loop. -/
structure PerLoop (α : Type) where
  loop1 : α
  loop2 : α
deriving DecidableEq, Repr

/-- The value of one loop. -/
def PerLoop.get {α : Type} (x : PerLoop α) : LoopId → α
  | .loop1 => x.loop1
  | .loop2 => x.loop2

/-- The pair with one loop's value changed. -/
def PerLoop.upd {α : Type} (x : PerLoop α) (l : LoopId) (f : α → α) : PerLoop α :=
  match l with
  | .loop1 => { x with loop1 := f x.loop1 }
  | .loop2 => { x with loop2 := f x.loop2 }

/-- One value per lamp channel. -/
structure PerChannel (α : Type) where
  ch0 : α
  ch1 : α
  ch2 : α
  ch3 : α
deriving DecidableEq, Repr

/-- The value of one channel. -/
def PerChannel.get {α : Type} (x : PerChannel α) : ChannelId → α
  | .ch0 => x.ch0
  | .ch1 => x.ch1
  | .ch2 => x.ch2
  | .ch3 => x.ch3

/-- One value per channel, from a function of the channel. -/
def PerChannel.build {α : Type} (f : ChannelId → α) : PerChannel α :=
  { ch0 := f .ch0, ch1 := f .ch1, ch2 := f .ch2, ch3 := f .ch3 }

/-! ### Timers -/

/-- Where a timer stands (00_scope.md Conventions, Timers). -/
inductive TimerPhase where
  /-- Stopped, with count 0. -/
  | stopped
  /-- Counting. -/
  | running
  /-- Suspended: it keeps its count and resumes from it. -/
  | held
  /-- Standing at its limit. -/
  | atLimit
deriving DecidableEq, Repr

/-- A timer: its phase and its count, in ms. -/
structure Timer where
  phase : TimerPhase
  count : Nat
deriving DecidableEq, Repr

/-- Cleared: the count returns to zero and the timer stops. -/
def Timer.cleared : Timer := { phase := .stopped, count := 0 }

/-- Started, or restarted: counting from zero. -/
def Timer.fromZero : Timer := { phase := .running, count := 0 }

/-! ### The loaded configuration (Figure 11-1, in image units) -/

/-- A probe's record of the image (Figure 11-1, offsets of bytes 9-28). -/
structure ProbeCfg where
  enable   : Bool
  exponent : Nat
  nd       : Nat
  rld      : Nat
  tOpenMin : Nat
  d0       : Nat
  d1       : Nat
  len      : Nat
deriving DecidableEq, Repr

/-- A pump's record of the image (Figure 11-1, offsets of bytes 56-77). -/
structure PumpCfg where
  prun   : Nat
  ks     : Nat
  tsurge : Nat
  a      : Nat
  b      : Nat
  tex    : Nat
  tet    : Nat
deriving DecidableEq, Repr

/-- A lamp channel's record of the image (Figure 11-1, offsets of bytes 98-117): role code 0 UNUSED, 1 NORMAL,
2 WARNING. -/
structure ChannelCfg where
  role           : Nat
  activeLow      : Bool
  startsInactive : Bool
  lfull          : Nat
  normalTarget   : Nat
  boostTarget    : Nat
deriving DecidableEq, Repr

/-- The configuration a station runs by: the fields of Figure 11-1, in image units. -/
structure StationConfig where
  portal        : Bool
  gateFitted    : Bool
  pumpCount     : Nat
  halfStep      : Bool
  station       : Nat
  roster        : Byte
  divisor       : Nat
  ts            : Nat
  th            : Nat
  tstat         : Nat
  probeA        : ProbeCfg
  probeB        : ProbeCfg
  tWet          : Nat
  tAlert        : Nat
  tFlood        : Nat
  rAlert        : Nat
  hy            : Nat
  tsh           : Nat
  cMains        : Nat
  cStandby      : Nat
  margin        : Nat
  aLost         : Nat
  mr            : Nat
  sMin          : Nat
  sStep         : Nat
  kl            : Nat
  pgate         : Nat
  kg            : Nat
  pump          : PerPump PumpCfg
  sStop         : Nat
  sStart1       : Nat
  sStart2       : Nat
  tfl           : Nat
  lvPump        : PerPump Nat
  lvLower       : Nat
  lvRaise       : Nat
  lvRelight     : Nat
  tgsurge       : Nat
  tlsurge       : Nat
  tcw           : Nat
  tholdmax      : Nat
  flashOn       : Nat
  flashOff      : Nat
  channel       : PerChannel ChannelCfg
  np            : Nat
  autoClose     : Bool
  stuckOverride : Bool
  counted       : PerLoop Bool
  tw            : Nat
  tclear        : Nat
  tblocked      : Nat
  ttravel       : Nat
  tro           : Nat
  tstuck        : Nat
deriving DecidableEq, Repr

/-- A probe record with every field zero. -/
def ProbeCfg.zero : ProbeCfg :=
  { enable := false, exponent := 0, nd := 0, rld := 0, tOpenMin := 0, d0 := 0, d1 := 0, len := 0 }

/-- A pump record with every field zero. -/
def PumpCfg.zero : PumpCfg :=
  { prun := 0, ks := 0, tsurge := 0, a := 0, b := 0, tex := 0, tet := 0 }

/-- A channel record with every field zero. -/
def ChannelCfg.zero : ChannelCfg :=
  { role := 0, activeLow := false, startsInactive := false, lfull := 0, normalTarget := 0, boostTarget := 0 }

/-- DESIGN CHOICE (log 12), unsafe: what the loaded configuration holds before the first image is read. No rule
reads it there. -/
def StationConfig.zero : StationConfig :=
  { portal := false, gateFitted := false, pumpCount := 0, halfStep := false, station := 0, roster := 0,
    divisor := 0, ts := 0, th := 0, tstat := 0, probeA := .zero, probeB := .zero, tWet := 0, tAlert := 0,
    tFlood := 0, rAlert := 0, hy := 0, tsh := 0, cMains := 0, cStandby := 0, margin := 0, aLost := 0, mr := 0,
    sMin := 0, sStep := 0, kl := 0, pgate := 0, kg := 0, pump := ⟨.zero, .zero⟩, sStop := 0, sStart1 := 0,
    sStart2 := 0, tfl := 0, lvPump := ⟨0, 0⟩, lvLower := 0, lvRaise := 0, lvRelight := 0, tgsurge := 0,
    tlsurge := 0, tcw := 0, tholdmax := 0, flashOn := 0, flashOff := 0,
    channel := ⟨.zero, .zero, .zero, .zero⟩, np := 1, autoClose := false, stuckOverride := false,
    counted := ⟨false, false⟩, tw := 0, tclear := 0, tblocked := 0, ttravel := 0, tro := 0, tstuck := 0 }

/-! ### Configuration Loader (Chapter 11) -/

/-- The station mode (R178, R179, R180). -/
inductive Mode where
  | start | run | fallback
deriving DecidableEq, Repr

/-- The Configuration Loader (R175, R176) and the RESET_N line (R180). -/
structure Loader where
  /-- The station mode. -/
  mode      : Mode
  /-- RESET_N is held low, or power has just come on (R180). -/
  resetHeld : Bool
  /-- The image is being read: ECS_N is low (R175). -/
  reading   : Bool
  /-- Fref periods of the read so far, four to one SPI clock (R175). -/
  periods   : Nat
  /-- The 128 bytes as read. -/
  image     : List Byte
  /-- The loaded configuration: the clamped fields of the image. -/
  cfg       : StationConfig
  /-- The clamped flag. -/
  clamped   : Bool
deriving DecidableEq, Repr

/-! ### Inputs (R1) -/

/-- One debounce filter (R1): the level at the pin, the filtered level, and how many consecutive samples have
shown the opposite level. `true` is asserted (for KEY: LOCAL). -/
structure Filter where
  pin      : Bool
  level    : Bool
  opposite : Nat
deriving DecidableEq, Repr

/-- A filter that has taken a level: pin and filtered level agree. -/
def Filter.settled (b : Bool) : Filter := { pin := b, level := b, opposite := 0 }

/-- The sixteen field inputs (R1). -/
structure Inputs where
  runSense  : PerPump Filter
  thermal   : PerPump Filter
  float     : Filter
  mainsOk   : Filter
  standbyOk : Filter
  limDown   : Filter
  limUp     : Filter
  loop      : PerLoop Filter
  key       : Filter
  pbLower   : Filter
  pbRaise   : Filter
  pbStop    : Filter
  daylight  : Filter
deriving DecidableEq, Repr

/-! ### The clock dividers -/

/-- The dividers from Fref (R1, R3, R21, R139): tenths of an Fref period towards the next ms (an ms is 3686.4
periods), and Fref periods towards the next link sample clock, probe tick and PWM clock. -/
structure Dividers where
  msTenths : Nat
  link     : Nat
  probe    : Nat
  pwm      : Nat
deriving DecidableEq, Repr

/-! ### Probe Unit (Figure 1-1) -/

/-- A probe's measurement phase. -/
inductive ProbePhase where
  | idle | discharge | charge
deriving DecidableEq, Repr

/-- A probe's reading status; `noReading` before the first measurement. -/
inductive ReadingStatus where
  | noReading | ok | openCircuit | over | blanked
deriving DecidableEq, Repr

/-- A probe record (Figure 1-1). -/
structure Probe where
  phase    : ProbePhase
  /-- Ticks of the DISCHARGE phase counted so far (R3). -/
  ticks    : Nat
  /-- The charge counter (R4). -/
  charge   : Nat
  /-- The raw tick value (R5). -/
  raw      : Nat
  status   : ReadingStatus
  /-- The averaging window, oldest first (R10). -/
  window   : List Nat
  /-- The fault state is FAULTED (R11). -/
  faulted  : Bool
  runCount : Nat
  /-- The surge signal has been active in this measurement's CHARGE phase (R7). -/
  blank    : Bool
  /-- The probe's depth, absent for UNKNOWN (R10, R13). -/
  depth    : Option Nat
deriving DecidableEq, Repr

/-- The Probe Unit (Figure 1-1, Figure 1-4). -/
structure ProbeUnit where
  a            : Probe
  b            : Probe
  /-- The roadway history ring, oldest first; an absent mark is none (R15). -/
  ring         : List (Option Nat)
  rise         : Int
  riseValid    : Bool
  blanked      : Nat
  sampleTimer  : Timer
  historyTimer : Timer
deriving DecidableEq, Repr

/-! ### Link Controller (Figure 2-1) -/

/-- The receive assembler's states (Figure 2-3). -/
inductive AsmState where
  | hunt | header | length | payload | crcHigh | crcLow | discard
deriving DecidableEq, Repr

/-- The frame being assembled: the bytes gathered since the last SYNC. -/
structure FrameBuffer where
  header  : Option Byte
  length  : Option Byte
  payload : List Byte
  crc     : List Byte
deriving DecidableEq, Repr

/-- Where the receiver stands in the line's characters (R22). While the station forms no characters it says where the
line stands: `look` at mark, `awaitMark` at space (R24, log 30). -/
inductive RxPhase where
  /-- The line is at mark: looking for a start bit. -/
  | look
  /-- Between a start edge and the end of the stop bit. -/
  | character
  /-- The line is at space outside a character: no start bit before it returns to mark. -/
  | awaitMark
deriving DecidableEq, Repr

/-- The kinds a station sends, each with a slot of the transmit queue (R32). -/
inductive TxKind where
  | status | claim | busy | done | report
deriving DecidableEq, Repr

/-- The transmit queue (R32): a slot is empty, or holds a pending frame with its count of failed attempts. -/
structure TxSlots where
  status : Option Nat
  claim  : Option Nat
  busy   : Option Nat
  done   : Option Nat
  report : Option Nat
deriving DecidableEq, Repr

/-- The frame on the line (R35): its kind, its failed attempts so far, its bytes from SYNC to the CRC low byte, and
the sixteenths of a bit time since its first start bit. -/
structure TxFrame where
  kind     : TxKind
  attempts : Nat
  bytes    : List Byte
  position : Nat
deriving DecidableEq, Repr

/-- The character that a stopped frame still finishes (R40): its byte, and the sixteenths of a bit time since its
start bit. -/
structure TxTail where
  byte     : Byte
  position : Nat
deriving DecidableEq, Repr

/-- The eight link counters (R31). -/
structure LinkCounters where
  rxOk        : Nat
  crcErr      : Nat
  lengthErr   : Nat
  unknownKind : Nat
  foreign     : Nat
  fragment    : Nat
  collision   : Nat
  txDropped   : Nat
deriving DecidableEq, Repr

/-- The Link Controller (Figure 2-1). -/
structure Link where
  asm          : AsmState
  buffer       : FrameBuffer
  rx           : RxPhase
  /-- The line idle time in sixteenths of a bit time (R24). -/
  idle         : Nat
  idleCounting : Bool
  slots        : TxSlots
  onLine       : Option TxFrame
  /-- The rest of the character of a frame that a warm restart has stopped (R40). -/
  tail         : Option TxTail
  counters     : LinkCounters
deriving DecidableEq, Repr

/-! ### Peer Table (Figures 3-1 and 3-4) -/

/-- The contents of a peer entry, present together after the first STATUS (Figure 3-4). -/
structure PeerContents where
  depth   : Option Nat
  rise    : Int
  draw    : Nat
  shed    : Bool
  lag     : Bool
  lastSeq : Nat
deriving DecidableEq, Repr

/-- A peer entry (Figure 3-4); the age is absent for NEVER. -/
structure PeerEntry where
  station  : Nat
  age      : Option Nat
  contents : Option PeerContents
deriving DecidableEq, Repr

/-- The Peer Table (Figure 3-1). -/
structure PeerTable where
  entries   : List PeerEntry
  timer     : Timer
  seq       : Nat
  isolated  : Bool
  duplicate : Bool
  seqGap    : Nat
deriving DecidableEq, Repr

/-! ### Stage Monitor (Figure 4-1) -/

/-- The storm stages. -/
inductive Stage where
  | dry | wet | alert | flood
deriving DecidableEq, Repr

/-- The stage hold timer's states (Figure 4-3). -/
inductive HoldState where
  | cleared | running | served
deriving DecidableEq, Repr

/-- The Stage Monitor (Figure 4-1). -/
structure StageMonitor where
  stage     : Stage
  blind     : Bool
  hold      : HoldState
  holdCount : Nat
deriving DecidableEq, Repr

/-! ### Headroom Unit (Figure 5-1) -/

/-- The supply modes (R72). -/
inductive Supply where
  | mains | standby | none
deriving DecidableEq, Repr

/-- The Headroom Unit (Figure 5-1). -/
structure Headroom where
  supply      : Supply
  /-- The lamp scale s. -/
  scale       : Nat
  /-- The last computed headroom H. -/
  h           : Int
  shedCapable : Bool
  timer       : Timer
deriving DecidableEq, Repr

/-! ### Start Arbiter (Figures 6-1, 6-2 and 6-5) -/

/-- The four requesters, in the tie order (6.1). -/
inductive Requester where
  | gate | p1 | p2 | lamps
deriving DecidableEq, Repr

/-- The reasons of requests (R92). -/
inductive Reason where
  | demand | handover | exercise | lower | raise | relight
deriving DecidableEq, Repr

/-- The triggers of requests (R93, R94). -/
inductive Trigger where
  | level | edge
deriving DecidableEq, Repr

/-- A request: its reason with the level and trigger the reason fixes (R92). -/
structure Request where
  reason  : Reason
  level   : Nat
  trigger : Trigger
deriving DecidableEq, Repr

/-- A start-table entry (Figure 6-2). `posts` is the model's own: how often a post has made the entry pending, so that
an entry that is cancelled and posted again within one command is seen to have become pending (R98, log 8). -/
structure Entry where
  pending    : Bool
  request    : Option Request
  held       : Option Request
  armed      : Bool
  mask       : Bool
  budgetHeld : Bool
  served     : Bool
  posts      : Nat
deriving DecidableEq, Repr

/-- The start table. -/
structure StartTable where
  gate  : Entry
  p1    : Entry
  p2    : Entry
  lamps : Entry
deriving DecidableEq, Repr

/-- The own claim states (Figure 6-1). -/
inductive ClaimState where
  | idle | claimQueued | claimWait | surge
deriving DecidableEq, Repr

/-- The listen-in timer's states (R97). -/
inductive ListenIn where
  | stopped | running | elapsed
deriving DecidableEq, Repr

/-- A claim record (Figure 6-5); the requester and reason are the codes as received. -/
structure ClaimRecord where
  station   : Nat
  requester : Nat
  reason    : Nat
  urgency   : Nat
  sd        : Nat
  holder    : Nat
deriving DecidableEq, Repr

/-- The outcomes of a DONE (Figure 6-6). -/
inductive DoneOutcome where
  | started | abandoned
deriving DecidableEq, Repr

/-- The DONE record (Figure 6-1). -/
structure DoneRecord where
  requester : Requester
  reason    : Reason
  outcome   : DoneOutcome
deriving DecidableEq, Repr

/-- The Start Arbiter (Figure 6-1). -/
structure Arbiter where
  table       : StartTable
  claim       : ClaimState
  window      : Timer
  surge       : Timer
  listenIn    : ListenIn
  listenCount : Nat
  claims      : List ClaimRecord
  done        : Option DoneRecord
  busyHeard   : Bool
  cancelHeld  : Bool
deriving DecidableEq, Repr

/-! ### Pump Controller (Figure 7-1) -/

/-- The pump states (Figure 7-2). -/
inductive PumpState where
  | off | pending | claiming | surging | running | resting | fault | inhibited
deriving DecidableEq, Repr

/-- Why a pump is being started or is running (Figure 7-1). -/
inductive PumpReason where
  | demand | handover | exercise | float
deriving DecidableEq, Repr

/-- Why a pump is in FAULT (Figure 7-1). -/
inductive PumpCause where
  | noRun | runLost | thermal
deriving DecidableEq, Repr

/-- The phases of the run/rest timer (R128, R129). -/
inductive RunPhase where
  | run | rest
deriving DecidableEq, Repr

/-- One pump (Figure 7-1). -/
structure Pump where
  state      : PumpState
  reason     : Option PumpReason
  cause      : Option PumpCause
  runPhase   : RunPhase
  run        : Timer
  relief     : Bool
  runSense   : Timer
  thermal    : Timer
  exercise   : Timer
  floatSurge : Timer
deriving DecidableEq, Repr

/-- The Pump Controller (Figure 7-1). -/
structure PumpControl where
  pump       : PerPump Pump
  lead       : PumpId
  /-- The running order: the pump that entered RUNNING last. -/
  later      : Option PumpId
  leadDemand : Bool
  lagDemand  : Bool
  floatTimer : Timer
  /-- A pump that a warm restart has left RUNNING and that has not been judged under R122 since: the latches wait for
  their first event (R138, log 20). -/
  leftRunning : PerPump Bool
deriving DecidableEq, Repr

/-! ### Lamp Controller (Figure 8-1) -/

/-- The bank conditions (Figure 8-3). -/
inductive Bank where
  | dark | relighting | lit
deriving DecidableEq, Repr

/-- The flash timer's states (R144). -/
inductive FlashPhase where
  | stopped | on | off
deriving DecidableEq, Repr

/-- The Lamp Controller (Figure 8-1). Relight-needed is set in DARK and RELIGHTING and clear in LIT. -/
structure LampControl where
  bank       : Bank
  period     : Nat
  pwmRunning : Bool
  computed   : PerChannel Nat
  applied    : PerChannel Nat
  warning    : Bool
  flash      : FlashPhase
  flashCount : Nat
  test       : Timer
deriving DecidableEq, Repr

/-! ### Gate Controller (Figure 9-1) -/

/-- The gate states (Figure 9-1); `atOpen` is OPEN. -/
inductive GateState where
  | atOpen | warning | holding | lowerPending | lowering | lowerPaused | closed | raisePending | raising | fault
deriving DecidableEq, Repr

/-- Why the gate is in FAULT. -/
inductive GateCause where
  | travel | limits
deriving DecidableEq, Repr

/-- Which gate output is driven (R152). -/
inductive Motor where
  | off | down | up
deriving DecidableEq, Repr

/-- A loop's stuck timer and stuck fault (R153). -/
structure Stuck where
  timer : Timer
  fault : Bool
deriving DecidableEq, Repr

/-- The Gate Controller (Figure 9-1). -/
structure GateControl where
  state         : GateState
  cause         : Option GateCause
  motor         : Motor
  closeOrder    : Bool
  holdClosed    : Bool
  blockedFlag   : Bool
  stoppedByLoss : Bool
  warning       : Timer
  dwell         : Timer
  blocked       : Timer
  travel        : Timer
  reopen        : Timer
  localSurge    : Timer
  stuck         : PerLoop Stuck
deriving DecidableEq, Repr

/-! ### Order Handler (Chapter 10) -/

/-- The result codes of REPORT (Figure 10-1). -/
inductive OrderResult where
  | accepted | refusedKey | refusedState | refusedRole | unknownOrder | badArgument
deriving DecidableEq, Repr

/-- The report record (Chapter 10). -/
structure ReportRecord where
  code   : Byte
  arg    : Half
  result : OrderResult
  data   : List Byte
deriving DecidableEq, Repr

/-! ### The station -/

/-- One station: its eleven blocks, its inputs, its dividers, its queue of waiting commands and the counter that
numbers the free values. -/
structure State where
  loader  : Loader
  inputs  : Inputs
  div     : Dividers
  probes  : ProbeUnit
  link    : Link
  peers   : PeerTable
  stage   : StageMonitor
  head    : Headroom
  arb     : Arbiter
  pumps   : PumpControl
  lamps   : LampControl
  gate    : GateControl
  order   : Option ReportRecord
  free    : Nat
  pending : List Instr
deriving DecidableEq, Repr

/-! ### Updates of one block -/

/-- Change the Configuration Loader. -/
def State.onLoader (s : State) (f : Loader → Loader) : State := { s with loader := f s.loader }
/-- Change the inputs. -/
def State.onInputs (s : State) (f : Inputs → Inputs) : State := { s with inputs := f s.inputs }
/-- Change the clock dividers. -/
def State.onDiv (s : State) (f : Dividers → Dividers) : State := { s with div := f s.div }
/-- Change the Probe Unit. -/
def State.onProbes (s : State) (f : ProbeUnit → ProbeUnit) : State := { s with probes := f s.probes }
/-- Change the Link Controller. -/
def State.onLink (s : State) (f : Link → Link) : State := { s with link := f s.link }
/-- Change the Peer Table. -/
def State.onPeers (s : State) (f : PeerTable → PeerTable) : State := { s with peers := f s.peers }
/-- Change the Stage Monitor. -/
def State.onStage (s : State) (f : StageMonitor → StageMonitor) : State := { s with stage := f s.stage }
/-- Change the Headroom Unit. -/
def State.onHead (s : State) (f : Headroom → Headroom) : State := { s with head := f s.head }
/-- Change the Start Arbiter. -/
def State.onArb (s : State) (f : Arbiter → Arbiter) : State := { s with arb := f s.arb }
/-- Change the Pump Controller. -/
def State.onPumps (s : State) (f : PumpControl → PumpControl) : State := { s with pumps := f s.pumps }
/-- Change the Lamp Controller. -/
def State.onLamps (s : State) (f : LampControl → LampControl) : State := { s with lamps := f s.lamps }
/-- Change the Gate Controller. -/
def State.onGate (s : State) (f : GateControl → GateControl) : State := { s with gate := f s.gate }
/-- Set the report record. -/
def State.withOrder (s : State) (r : Option ReportRecord) : State := { s with order := r }
/-- Set the counter of free values. -/
def State.withFree (s : State) (n : Nat) : State := { s with free := n }
/-- Set the queue of waiting commands. -/
def State.withPending (s : State) (q : List Instr) : State := { s with pending := q }

/-- The loaded configuration. -/
abbrev State.cfg (s : State) : StationConfig := s.loader.cfg
/-- The station mode. -/
abbrev State.mode (s : State) : Mode := s.loader.mode

/-! ### Cold-reset values -/

/-- Every input released (log 4: DESIGN CHOICE, unsafe: the manual gives the pins no level at power-on). -/
def Inputs.released : Inputs :=
  { runSense := ⟨.settled false, .settled false⟩, thermal := ⟨.settled false, .settled false⟩,
    float := .settled false, mainsOk := .settled false, standbyOk := .settled false,
    limDown := .settled false, limUp := .settled false, loop := ⟨.settled false, .settled false⟩,
    key := .settled false, pbLower := .settled false, pbRaise := .settled false, pbStop := .settled false,
    daylight := .settled false }

/-- A probe after a cold reset (R18). -/
def Probe.atReset : Probe :=
  { phase := .idle, ticks := 0, charge := 0, raw := 0, status := .noReading, window := [], faulted := false,
    runCount := 0, blank := false, depth := none }

/-- The Probe Unit after a cold reset (R18). -/
def ProbeUnit.atReset : ProbeUnit :=
  { a := .atReset, b := .atReset, ring := [], rise := 0, riseValid := false, blanked := 0,
    sampleTimer := .cleared, historyTimer := .cleared }

/-- An empty frame buffer (R25, R39). -/
def FrameBuffer.empty : FrameBuffer := { header := none, length := none, payload := [], crc := [] }

/-- Five empty slots (R39). -/
def TxSlots.empty : TxSlots := { status := none, claim := none, busy := none, done := none, report := none }

/-- The link counters at 0 (R31). -/
def LinkCounters.zero : LinkCounters :=
  { rxOk := 0, crcErr := 0, lengthErr := 0, unknownKind := 0, foreign := 0, fragment := 0, collision := 0,
    txDropped := 0 }

/-- The Link Controller after a cold reset (R39). -/
def Link.atReset : Link :=
  { asm := .hunt, buffer := .empty, rx := .look, idle := 0, idleCounting := false, slots := .empty,
    onLine := none, tail := none, counters := .zero }

/-- The Peer Table after a cold reset (R56). -/
def PeerTable.atReset : PeerTable :=
  { entries := [], timer := .cleared, seq := 0, isolated := false, duplicate := false, seqGap := 0 }

/-- The Stage Monitor after a cold reset (R70). -/
def StageMonitor.atReset : StageMonitor := { stage := .wet, blind := true, hold := .cleared, holdCount := 0 }

/-- The Headroom Unit after a cold reset, with the supply mode its sense inputs give (R90). -/
def Headroom.atReset (supply : Supply) : Headroom :=
  { supply := supply, scale := 256, h := 0, shedCapable := false, timer := .cleared }

/-- A start-table entry after a cold reset (R116). -/
def Entry.atReset : Entry :=
  { pending := false, request := none, held := none, armed := true, mask := false, budgetHeld := false,
    served := false, posts := 0 }

/-- The start table after a cold reset (R116). -/
def StartTable.atReset : StartTable := { gate := .atReset, p1 := .atReset, p2 := .atReset, lamps := .atReset }

/-- The Start Arbiter after a cold reset (R116). -/
def Arbiter.atReset : Arbiter :=
  { table := .atReset, claim := .idle, window := .cleared, surge := .cleared, listenIn := .stopped,
    listenCount := 0, claims := [], done := none, busyHeard := false, cancelHeld := false }

/-- A pump after a cold reset (R137). -/
def Pump.atReset : Pump :=
  { state := .off, reason := none, cause := none, runPhase := .run, run := .cleared, relief := false,
    runSense := .cleared, thermal := .cleared, exercise := .cleared, floatSurge := .cleared }

/-- The Pump Controller after a cold reset (R137). -/
def PumpControl.atReset : PumpControl :=
  { pump := ⟨.atReset, .atReset⟩, lead := .p1, later := none, leadDemand := false, lagDemand := false,
    floatTimer := .cleared, leftRunning := ⟨false, false⟩ }

/-- The Lamp Controller after a cold reset (R148). -/
def LampControl.atReset : LampControl :=
  { bank := .dark, period := 0, pwmRunning := false, computed := ⟨0, 0, 0, 0⟩, applied := ⟨0, 0, 0, 0⟩,
    warning := false, flash := .stopped, flashCount := 0, test := .cleared }

/-- A loop's stuck timer and fault after a cold reset (R168). -/
def Stuck.atReset : Stuck := { timer := .cleared, fault := false }

/-- The Gate Controller after a cold reset (R168). -/
def GateControl.atReset : GateControl :=
  { state := .atOpen, cause := none, motor := .off, closeOrder := false, holdClosed := false,
    blockedFlag := false, stoppedByLoss := false, warning := .cleared, dwell := .cleared, blocked := .cleared,
    travel := .cleared, reopen := .cleared, localSurge := .cleared, stuck := ⟨.atReset, .atReset⟩ }

/-- The Configuration Loader at a cold reset: START, RESET_N held, ECS_N high, the clamped flag clear (R180). What
the image and the loaded configuration hold is log 12. -/
def Loader.atReset : Loader :=
  { mode := .start, resetHeld := true, reading := false, periods := 0, image := List.replicate 128 0,
    cfg := .zero, clamped := false }

/-- The dividers at their start (log 3). -/
def Dividers.zero : Dividers := { msTenths := 0, link := 0, probe := 0, pwm := 0 }

/-- The machine right after a cold reset (R180): every block at its cold-reset values, the inputs as log 4 gives,
so that the supply mode is NONE (R72), and no command waiting. -/
def State.reset : State :=
  { loader := .atReset, inputs := .released, div := .zero, probes := .atReset, link := .atReset,
    peers := .atReset, stage := .atReset, head := .atReset .none, arb := .atReset, pumps := .atReset,
    lamps := .atReset, gate := .atReset, order := none, free := 0, pending := [] }

end Sys2Proof.Machine
end

