-- ==== Sys2Proof/Machine/Operands.lean ====
section
/-! DEFINITION. The forms in which the station's operands come and go: the CRC of a frame and of the image (R29),
the fields of the configuration image (Figure 11-1), the codes of Figures 3-2, 3-3, 6-6 and 10-1, and the payloads
of arriving frames. -/

namespace Sys2Proof.Machine

/-! ### CRC (R29) -/

/-- One bit fed into the CRC register (R29). -/
def crcBit (r : Half) (b : Bool) : Half :=
  if b != r.msb then (r <<< 1) ^^^ 0x1021 else r <<< 1

/-- One byte fed in, most significant bit first (R29). -/
def crcByte (r : Half) (b : Byte) : Half :=
  [7, 6, 5, 4, 3, 2, 1, 0].foldl (fun acc k => crcBit acc (b.getLsbD k)) r

/-- The CRC of a list of bytes, from 0xFFFF, with no final inversion (R29). -/
def crcOf (bytes : List Byte) : Half := bytes.foldl crcByte 0xFFFF

/-! ### Fields of two bytes and packed pairs -/

/-- A two-byte field, high byte first. -/
def join16 (hi lo : Byte) : Nat := hi.toNat * 256 + lo.toNat

/-- A payload's byte. -/
def payloadByte (payload : List Byte) (i : Nat) : Byte := payload.getD i 0

/-- A payload's two-byte field. -/
def payloadHalf (payload : List Byte) (i : Nat) : Nat := join16 (payloadByte payload i) (payloadByte payload (i + 1))

/-- A two-byte field as it is sent. -/
def bytes16 (n : Nat) : List Byte := [hiByte n, loByte n]

/-- A signed 16-bit field as it is sent, two's complement (Figure 3-2). -/
def bytesInt16 (i : Int) : List Byte := bytes16 (BitVec.ofInt 16 i).toNat

/-- The value of a signed 16-bit field (Figure 3-2). -/
def intOf16 (n : Nat) : Int := (BitVec.ofNat 16 n).toInt

/-- A flag as a bit of a byte. -/
def flagBit (b : Bool) (k : Nat) : Nat := if b then 2 ^ k else 0

/-! ### Codes -/

/-- The stage code (Figure 3-2, byte 1). -/
def stageCode : Stage → Nat
  | .dry => 0
  | .wet => 1
  | .alert => 2
  | .flood => 3

/-- The pump state code (Figure 3-3). -/
def pumpStateCode : PumpState → Nat
  | .off => 0
  | .pending => 1
  | .claiming => 2
  | .surging => 3
  | .running => 4
  | .resting => 5
  | .fault => 6
  | .inhibited => 7

/-- The gate state code (Figure 3-3). -/
def gateStateCode : GateState → Nat
  | .atOpen => 0
  | .warning => 1
  | .holding => 2
  | .lowerPending => 3
  | .lowering => 4
  | .lowerPaused => 5
  | .closed => 6
  | .raisePending => 7
  | .raising => 8
  | .fault => 9

/-- The requester code (Figure 6-6). -/
def requesterCode : Requester → Nat
  | .gate => 0
  | .p1 => 1
  | .p2 => 2
  | .lamps => 3

/-- The reason code (Figure 6-6). -/
def reasonCode : Reason → Nat
  | .demand => 0
  | .handover => 1
  | .exercise => 2
  | .lower => 3
  | .raise => 4
  | .relight => 5

/-- The outcome code of a DONE (Figure 6-6). -/
def outcomeCode : DoneOutcome → Nat
  | .started => 0
  | .abandoned => 1

/-- The result code of a REPORT (Figure 10-1). -/
def resultCode : OrderResult → Nat
  | .accepted => 0
  | .refusedKey => 1
  | .refusedState => 2
  | .refusedRole => 3
  | .unknownOrder => 4
  | .badArgument => 5

/-- The supply mode code of QUERY page 0 (R172). -/
def supplyCode : Supply → Nat
  | .mains => 0
  | .standby => 1
  | .none => 2

/-- The own claim state code of QUERY page 0 (R172). -/
def claimCode : ClaimState → Nat
  | .idle => 0
  | .claimQueued => 1
  | .claimWait => 2
  | .surge => 3

/-- The kind code of a frame a station sends (R34, frame kinds of 2.2). -/
def txKindCode : TxKind → Nat
  | .status => 1
  | .claim => 2
  | .busy => 3
  | .done => 4
  | .report => 6

/-- The kind code of an ORDER frame (frame kinds of 2.2). -/
def orderKindCode : Nat := 5

/-- A depth as the bay link carries it (R13, R45). -/
def depthCode : Option Nat → Nat
  | some d => d
  | none => Config.unknownDepth

/-! ### Arriving payloads -/

/-- A roadway depth as it is stored from a STATUS: 0-3000 as given, any other value UNKNOWN (R50). -/
def depthOfCode (n : Nat) : Option Nat := if n ≤ 3000 then some n else none

/-- The contents a STATUS payload gives a peer entry (R50, Figure 3-2). -/
def statusContents (payload : List Byte) : PeerContents :=
  { depth := depthOfCode (payloadHalf payload 2)
    rise := intOf16 (payloadHalf payload 4)
    draw := min 4095 (payloadHalf payload 8)
    shed := (payloadByte payload 0).getLsbD 3
    lag := (payloadByte payload 0).getLsbD 2
    lastSeq := (payloadByte payload 14).toNat }

/-- The requester field of a CLAIM, BUSY or DONE payload, as received (Figure 6-6). -/
def payloadRequester (payload : List Byte) : Nat := (payloadByte payload 0).toNat / 16

/-- The reason field of a CLAIM, BUSY or DONE payload, as received (Figure 6-6). -/
def payloadReason (payload : List Byte) : Nat := (payloadByte payload 0).toNat % 16

/-- The record a CLAIM makes for its sender; an urgency above 7 is recorded as 7 (R112). -/
def claimRecordOf (sender : Nat) (payload : List Byte) : ClaimRecord :=
  { station := sender, requester := payloadRequester payload, reason := payloadReason payload,
    urgency := min 7 (payloadByte payload 1).toNat, sd := payloadHalf payload 2, holder := 0 }

/-! ### Fields of the image (Figure 11-1) -/

/-- A byte of the image as a number. -/
def imageByte (image : List Byte) (i : Nat) : Nat := (image.getD i 0).toNat

/-- A two-byte field of the image. -/
def imageHalf (image : List Byte) (i : Nat) : Nat := imageByte image i * 256 + imageByte image (i + 1)

/-- A bit of an image byte. -/
def imageBit (image : List Byte) (i k : Nat) : Bool := (image.getD i 0).getLsbD k

/-- The first value of a packed pair (11.1). -/
def imagePairFirst (image : List Byte) (i : Nat) : Nat := imageByte image i * 16 + imageByte image (i + 1) / 16

/-- The second value of a packed pair (11.1). -/
def imagePairSecond (image : List Byte) (i : Nat) : Nat :=
  imageByte image (i + 1) % 16 * 256 + imageByte image (i + 2)

end Sys2Proof.Machine
end

