-- ==== Sys2Proof/Machine/Image.lean ====
section
/-! DEFINITION. The configuration image (Chapter 11): its fields as read, the clamping of R176 and the checks of
R177. -/

namespace Sys2Proof.Machine

/-- A probe record as read, from its first byte (Figure 11-1). -/
def readProbe (image : List Byte) (i : Nat) : ProbeCfg :=
  { enable := imageBit image i 7, exponent := imageByte image i % 8, nd := imageByte image (i + 1),
    rld := imageHalf image (i + 2), tOpenMin := imageByte image (i + 4), d0 := imagePairFirst image (i + 5),
    d1 := imagePairSecond image (i + 5), len := imageHalf image (i + 8) }

/-- A pump record as read, from its first byte (Figure 11-1). -/
def readPump (image : List Byte) (i : Nat) : PumpCfg :=
  { prun := imageHalf image i, ks := imageByte image (i + 2), tsurge := imageHalf image (i + 3),
    a := imageHalf image (i + 5), b := imageHalf image (i + 7), tex := imageByte image (i + 9),
    tet := imageByte image (i + 10) }

/-- A channel record as read, from its first byte (Figure 11-1). -/
def readChannel (image : List Byte) (i : Nat) : ChannelCfg :=
  { role := imageByte image i % 4, activeLow := imageBit image i 2, startsInactive := imageBit image i 3,
    lfull := imageByte image (i + 1), normalTarget := imagePairFirst image (i + 2),
    boostTarget := imagePairSecond image (i + 2) }

/-- Every field of the image as read, in image units (Figure 11-1). -/
def readFields (image : List Byte) : StationConfig :=
  { portal := imageBit image 3 7
    gateFitted := imageBit image 3 6
    pumpCount := imageByte image 3 / 16 % 4
    halfStep := imageBit image 3 3
    station := imageByte image 3 % 8
    roster := image.getD 4 0
    divisor := imageByte image 5
    ts := imageByte image 6
    th := imageByte image 7
    tstat := imageByte image 8
    probeA := readProbe image 9
    probeB := readProbe image 19
    tWet := imageHalf image 29
    tAlert := imageHalf image 31
    tFlood := imageHalf image 33
    rAlert := imageHalf image 35
    hy := imageByte image 37
    tsh := imageHalf image 38
    cMains := imagePairFirst image 40
    cStandby := imagePairSecond image 40
    margin := imageHalf image 43
    aLost := imageHalf image 45
    mr := imageHalf image 47
    sMin := imageHalf image 49
    sStep := imageByte image 51
    kl := imageByte image 52
    pgate := imageHalf image 53
    kg := imageByte image 55
    pump := ⟨readPump image 56, readPump image 67⟩
    sStop := imageHalf image 78
    sStart1 := imageHalf image 80
    sStart2 := imageHalf image 82
    tfl := imageByte image 84
    lvPump := ⟨imageByte image 85 / 16, imageByte image 85 % 16⟩
    lvLower := imageByte image 86 / 16
    lvRaise := imageByte image 86 % 16
    lvRelight := imageByte image 87
    tgsurge := imageHalf image 88
    tlsurge := imageHalf image 90
    tcw := imageHalf image 92
    tholdmax := imageHalf image 94
    flashOn := imageByte image 96
    flashOff := imageByte image 97
    channel := ⟨readChannel image 98, readChannel image 103, readChannel image 108, readChannel image 113⟩
    np := imageByte image 118 / 32 + 1
    autoClose := imageBit image 118 4
    stuckOverride := imageBit image 118 3
    counted := ⟨imageBit image 118 0, imageBit image 118 1⟩
    tw := imageHalf image 119
    tclear := imageByte image 121
    tblocked := imageByte image 122
    ttravel := imageByte image 123
    tro := imageByte image 124
    tstuck := imageByte image 125 }

/-- A probe record clamped (R176): D0, D1 and the enable bit as read. -/
def clampProbe (p : ProbeCfg) : ProbeCfg :=
  { p with
    exponent := clampNat 0 6 p.exponent
    nd := clampNat 8 255 p.nd
    rld := clampNat 256 4095 p.rld
    tOpenMin := clampNat 1 255 p.tOpenMin
    len := clampNat 1 3000 p.len }

/-- A pump record clamped (R176): a run limit of 0 stays 0. -/
def clampPump (p : PumpCfg) : PumpCfg :=
  { prun := clampNat 1 400 p.prun
    ks := clampNat 8 48 p.ks
    tsurge := clampNat 100 10000 p.tsurge
    a := if p.a = 0 then 0 else clampNat 60 7200 p.a
    b := clampNat 0 3600 p.b
    tex := clampNat 0 168 p.tex
    tet := clampNat 5 120 p.tet }

/-- A channel record clamped (R176): a role code of 3 becomes NORMAL. -/
def clampChannel (c : ChannelCfg) : ChannelCfg :=
  { c with
    role := if c.role = 3 then 1 else c.role
    lfull := clampNat 0 100 c.lfull
    normalTarget := clampNat 0 4095 c.normalTarget
    boostTarget := clampNat 0 4095 c.boostTarget }

/-- Every numeric field brought into its range (R176). -/
def clampFields (c : StationConfig) : StationConfig :=
  { c with
    pumpCount := clampNat 0 2 c.pumpCount
    ts := clampNat 1 10 c.ts
    th := clampNat 1 30 c.th
    tstat := clampNat 5 40 c.tstat
    probeA := clampProbe c.probeA
    probeB := clampProbe c.probeB
    tWet := clampNat 1 3000 c.tWet
    tAlert := clampNat 1 3000 c.tAlert
    tFlood := clampNat 1 3000 c.tFlood
    rAlert := clampNat 1 1000 c.rAlert
    hy := clampNat 0 200 c.hy
    tsh := clampNat 10 3600 c.tsh
    cMains := clampNat 0 4095 c.cMains
    cStandby := clampNat 0 4095 c.cStandby
    margin := clampNat 0 500 c.margin
    aLost := clampNat 0 1000 c.aLost
    mr := clampNat 0 500 c.mr
    sMin := clampNat 16 256 c.sMin
    sStep := clampNat 1 64 c.sStep
    kl := clampNat 8 32 c.kl
    pgate := clampNat 1 400 c.pgate
    kg := clampNat 8 48 c.kg
    pump := ⟨clampPump c.pump.p1, clampPump c.pump.p2⟩
    sStop := clampNat 0 3000 c.sStop
    sStart1 := clampNat 0 3000 c.sStart1
    sStart2 := clampNat 0 3000 c.sStart2
    tfl := clampNat 2 60 c.tfl
    lvPump := ⟨clampNat 0 7 c.lvPump.p1, clampNat 0 7 c.lvPump.p2⟩
    lvLower := clampNat 0 7 c.lvLower
    lvRaise := clampNat 0 7 c.lvRaise
    lvRelight := clampNat 0 7 c.lvRelight
    tgsurge := clampNat 100 5000 c.tgsurge
    tlsurge := clampNat 100 5000 c.tlsurge
    tcw := clampNat 20 500 c.tcw
    tholdmax := clampNat 1000 30000 c.tholdmax
    flashOn := clampNat 10 200 c.flashOn
    flashOff := clampNat 10 200 c.flashOff
    channel := ⟨clampChannel c.channel.ch0, clampChannel c.channel.ch1, clampChannel c.channel.ch2,
      clampChannel c.channel.ch3⟩
    tw := clampNat 10 300 c.tw
    tclear := clampNat 2 60 c.tclear
    tblocked := clampNat 3 90 c.tblocked
    ttravel := clampNat 5 120 c.ttravel
    tro := clampNat 4 240 c.tro
    tstuck := clampNat 6 180 c.tstuck }

/-- The clamped flag: some field was changed (R176). -/
def wasClamped (image : List Byte) : Bool := clampFields (readFields image) != readFields image

/-- Whether a station number is in a roster (Figure 11-1, byte 4). -/
def inRoster (c : StationConfig) (k : Nat) : Bool := c.roster.getLsbD k

/-- The station numbers of the roster, in order. -/
def rosterList (c : StationConfig) : List Nat := [0, 1, 2, 3, 4, 5, 6, 7].filter (inRoster c)

/-- The probe calibration check of R177. -/
def probeValid (p : ProbeCfg) : Bool :=
  decide (p.tOpenMin < p.d0) && decide (p.d0 < p.d1) && decide (p.d1 ≤ p.rld)

/-- The marker check of R177. -/
def markerValid (image : List Byte) : Bool := image.getD 0 0 == 0xC4 && image.getD 1 0 == 0x18

/-- The CRC check of R177: over bytes 0-125, against bytes 126-127. -/
def imageCrcValid (image : List Byte) : Bool := (crcOf (image.take 126)).toNat == imageHalf image 126

/-- The roster check of R177. -/
def rosterValid (c : StationConfig) : Bool := inRoster c c.station && decide (2 ≤ (rosterList c).length)

/-- The checks of R177 on the clamped fields. -/
def fieldsValid (c : StationConfig) : Bool :=
  rosterValid c && decide (2 ≤ c.divisor) && probeValid c.probeA && probeValid c.probeB &&
  decide (c.tWet < c.tAlert) && decide (c.tAlert < c.tFlood) &&
  decide (c.sStop < c.sStart1) && decide (c.sStart1 < c.sStart2) &&
  (c.gateFitted == c.portal)

/-- The image is valid: no check of R177 fails. -/
def imageValid (image : List Byte) : Bool :=
  markerValid image && imageCrcValid image && fieldsValid (clampFields (readFields image))

end Sys2Proof.Machine
end

