-- ==== Sys2Proof/Machine/Flags.lean ====
section
/-! DEFINITION. What follows from the state without being stored: limits of timers in ms, freshness, masks, the
surge signal, the supply mode, the loop interlock, the warning condition, the called pumps, and the outputs. -/

namespace Sys2Proof.Machine

/-! ### Probes -/

/-- The two probes: A in the sump, B at the roadway. -/
inductive ProbeId where
  | a | b
deriving DecidableEq, Repr

/-- A probe's record. -/
def ProbeUnit.get (u : ProbeUnit) : ProbeId → Probe
  | .a => u.a
  | .b => u.b

/-- A probe's configuration. -/
def probeCfg (c : StationConfig) : ProbeId → ProbeCfg
  | .a => c.probeA
  | .b => c.probeB

/-! ### Parameters in ms (Figure 11-1) -/

/-- Ts in ms. -/
def tsMs (c : StationConfig) : Nat := c.ts * 100
/-- Th in ms. -/
def thMs (c : StationConfig) : Nat := c.th * 1000
/-- Tstat in ms. -/
def tstatMs (c : StationConfig) : Nat := c.tstat * 50
/-- The listen-in limit, 3 x Tstat (R97). -/
def listenInMs (c : StationConfig) : Nat := 3 * tstatMs c
/-- Tsh in ms. -/
def tshMs (c : StationConfig) : Nat := c.tsh * 1000
/-- A pump's run limit A in ms, 0 for unlimited. -/
def runLimitMs (c : StationConfig) (p : PumpId) : Nat := (c.pump.get p).a * 1000
/-- A pump's rest limit B in ms. -/
def restLimitMs (c : StationConfig) (p : PumpId) : Nat := (c.pump.get p).b * 1000
/-- A pump's exercise interval Tex in ms, 0 for never. -/
def exerciseMs (c : StationConfig) (p : PumpId) : Nat := (c.pump.get p).tex * 3600000
/-- A pump's exercise time Tet in ms. -/
def exerciseRunMs (c : StationConfig) (p : PumpId) : Nat := (c.pump.get p).tet * 1000
/-- Tfl in ms. -/
def floatMs (c : StationConfig) : Nat := c.tfl * 1000
/-- Tw in ms. -/
def warningMs (c : StationConfig) : Nat := c.tw * 1000
/-- Tclear in ms. -/
def clearMs (c : StationConfig) : Nat := c.tclear * 1000
/-- Tblocked in ms. -/
def blockedMs (c : StationConfig) : Nat := c.tblocked * 10000
/-- Ttravel in ms. -/
def travelMs (c : StationConfig) : Nat := c.ttravel * 1000
/-- Tro in ms. -/
def reopenMs (c : StationConfig) : Nat := c.tro * 15000
/-- Tstuck in ms. -/
def stuckMs (c : StationConfig) : Nat := c.tstuck * 10000

/-- The divider Nsel of a probe: 2 raised to the clock-select exponent (1.1). -/
def nsel (p : ProbeCfg) : Nat := 2 ^ p.exponent

/-- The Fref periods of one link sample clock, 2D + h (R21). -/
def linkDivider (c : StationConfig) : Nat := 2 * c.divisor + (if c.halfStep then 1 else 0)

/-- A pump of the station that the configuration fits: one pump is P1 (7, parameters). -/
def fitted (c : StationConfig) : PumpId → Bool
  | .p1 => decide (1 ≤ c.pumpCount)
  | .p2 => decide (2 ≤ c.pumpCount)

/-- The number of stations in the roster (R79). -/
def rosterCount (c : StationConfig) : Nat := (rosterList c).length

/-- The effective claim window in ms: the larger of Tcw and two frames of the largest size (R111). -/
def effectiveWindow (c : StationConfig) : Nat :=
  max c.tcw (ceilDiv (580000 * (16 * linkDivider c)) 3686400)

/-- The largest surge time configured for the station's fitted equipment (R111). -/
def largestSurge (c : StationConfig) : Nat :=
  max (max (if fitted c .p1 then c.pump.p1.tsurge else 0) (if fitted c .p2 then c.pump.p2.tsurge else 0))
    (max (if c.portal then c.tgsurge else 0) c.tlsurge)

/-- The effective holder timeout in ms (R111). -/
def effectiveHolder (c : StationConfig) : Nat := max c.tholdmax (largestSurge c + effectiveWindow c)

/-! ### Supply and stage -/

/-- The supply mode that the two sense inputs give (R72). -/
def supplyOf (i : Inputs) : Supply :=
  if i.mainsOk.level then .mains else if i.standbyOk.level then .standby else .none

/-- The capacity C of the supply mode (R72). -/
def capacity (c : StationConfig) : Supply → Nat
  | .mains => c.cMains
  | .standby => c.cStandby
  | .none => 0

/-- The supply mode is NONE. -/
def noSupply (s : State) : Bool := s.head.supply == .none

/-- The station is in RUN. -/
def inRun (s : State) : Bool := s.mode == .run

/-- A PORTAL station in RUN: its Gate Controller is at work (9, R168). -/
def gateAtWork (s : State) : Bool := inRun s && s.cfg.portal

/-- The stage is FLOOD. -/
def isFlood (s : State) : Bool := s.stage.stage == .flood

/-- The stage is DRY or WET. -/
def isLowStage (s : State) : Bool := s.stage.stage == .dry || s.stage.stage == .wet

/-- The stage floor (R68). -/
def stageFloor : Stage → Nat
  | .dry => 7
  | .wet => 7
  | .alert => 5
  | .flood => 4

/-! ### The start table -/

/-- A requester's entry. -/
def StartTable.get (t : StartTable) : Requester → Entry
  | .gate => t.gate
  | .p1 => t.p1
  | .p2 => t.p2
  | .lamps => t.lamps

/-- The table with one entry changed. -/
def StartTable.upd (t : StartTable) (r : Requester) (f : Entry → Entry) : StartTable :=
  match r with
  | .gate => { t with gate := f t.gate }
  | .p1 => { t with p1 := f t.p1 }
  | .p2 => { t with p2 := f t.p2 }
  | .lamps => { t with lamps := f t.lamps }

/-- The requesters in the tie order (6.1). -/
def tieOrder : List Requester := [.gate, .p1, .p2, .lamps]

/-- A pump's requester. -/
def pumpRequester : PumpId → Requester
  | .p1 => .p1
  | .p2 => .p2

/-- The entry of a requester. -/
def entryOf (s : State) (r : Requester) : Entry := s.arb.table.get r

/-- The level of an entry's request. -/
def entryLevel (e : Entry) : Nat :=
  match e.request with
  | some q => q.level
  | none => 0

/-- An entry is masked: its service mask is set, or its level number is greater than the stage floor (R96). -/
def maskedAt (floor : Nat) (e : Entry) : Bool :=
  e.mask || (match e.request with
    | some q => decide (floor < q.level)
    | none => false)

/-- An entry is masked in the present stage (R96). -/
def masked (s : State) (r : Requester) : Bool := maskedAt (stageFloor s.stage.stage) (entryOf s r)

/-- An entry is a candidate: pending and not masked (R96, R99). -/
def eligible (s : State) (r : Requester) : Bool := (entryOf s r).pending && !masked s r

/-- The served requester, if any (R100). -/
def servedOf (s : State) : Option Requester := tieOrder.find? (fun r => (entryOf s r).served)

/-- A requester is served and in its surge (R75, R108). -/
def inSurge (s : State) (r : Requester) : Bool := s.arb.claim == .surge && (entryOf s r).served

/-- The surge signal: the own claim state is SURGE, or a float start is within its surge time (R7, R45). -/
def surgeSignal (s : State) : Bool :=
  s.arb.claim == .surge || s.pumps.pump.p1.floatSurge.phase == .running ||
  s.pumps.pump.p2.floatSurge.phase == .running

/-! ### Peers -/

/-- The freshness of a peer entry (R47). -/
inductive Freshness where
  | fresh | stale | lost
deriving DecidableEq, Repr

/-- The freshness that an age gives (R47). -/
def freshnessOf : Option Nat → Freshness
  | none => .lost
  | some n => if n ≤ 3 then .fresh else if n ≤ 8 then .stale else .lost

/-- The contents of a peer entry that is FRESH or STALE (R47). -/
def usableContents (e : PeerEntry) : Option PeerContents :=
  match freshnessOf e.age with
  | .lost => none
  | _ => e.contents

/-- The contents of every FRESH or STALE peer. -/
def usablePeers (s : State) : List PeerContents := s.peers.entries.filterMap usableContents

/-- The number of LOST peers (R78). -/
def lostCount (s : State) : Nat := (s.peers.entries.filter (fun e => freshnessOf e.age == .lost)).length

/-- The roster holds a peer and every peer entry is LOST (R53). -/
def allLost (s : State) : Bool :=
  !s.peers.entries.isEmpty && s.peers.entries.all (fun e => freshnessOf e.age == .lost)

/-! ### Gate (Chapter 9) -/

/-- The key stands at LOCAL. -/
def keyLocal (s : State) : Bool := s.inputs.key.level

/-- A counted loop that the interlock does not ignore is occupied (R153). -/
def loopBlocks (s : State) (l : LoopId) : Bool :=
  s.cfg.counted.get l && (s.inputs.loop.get l).level && !((s.gate.stuck.get l).fault && s.cfg.stuckOverride)

/-- The loops are clear (R153). -/
def loopsClear (s : State) : Bool := !loopBlocks s .loop1 && !loopBlocks s .loop2

/-- A closing cause stands (R154). -/
def closingCause (s : State) : Bool := isFlood s || s.gate.closeOrder || s.gate.holdClosed

/-- A cause that takes a gate from OPEN to WARNING (R154). -/
def closesFromOpen (s : State) : Bool :=
  (isFlood s && s.cfg.autoClose) || s.gate.closeOrder || s.gate.holdClosed

/-- The loop fault flag: some counted loop is stuck-faulted (R152). -/
def loopFault (s : State) : Bool :=
  (s.cfg.counted.loop1 && s.gate.stuck.loop1.fault) || (s.cfg.counted.loop2 && s.gate.stuck.loop2.fault)

/-- A gate state of the closing path short of CLOSED (R143). -/
def closingState : GateState → Bool
  | .warning | .holding | .lowerPending | .lowering | .lowerPaused => true
  | .atOpen | .closed | .raisePending | .raising | .fault => false

/-! ### Lamps (Chapter 8) -/

/-- Relight-needed: set in DARK and RELIGHTING, clear in LIT (Figure 8-1). -/
def relightNeeded (s : State) : Bool := s.lamps.bank != .lit

/-- The condition of warning active (R143). -/
def warningCondition (s : State) : Bool :=
  s.stage.stage == .alert || s.stage.stage == .flood || (s.cfg.portal && closingState s.gate.state)

/-- A channel's active target (R141). -/
def activeTarget (s : State) (ch : ChannelId) : Nat :=
  let c := s.cfg.channel.get ch
  if s.cfg.portal && s.inputs.daylight.level then c.boostTarget else c.normalTarget

/-- A channel's role is NORMAL. -/
def isNormal (s : State) (ch : ChannelId) : Bool := (s.cfg.channel.get ch).role == 1

/-- A channel's role is WARNING. -/
def isWarning (s : State) (ch : ChannelId) : Bool := (s.cfg.channel.get ch).role == 2

/-- A NORMAL channel's duty at a scale (R142). -/
def scaledDuty (target scale : Nat) : Nat := target * scale / 256

/-- The sum over the four channels. -/
def channelSum (f : ChannelId → Nat) : Nat := f .ch0 + f .ch1 + f .ch2 + f .ch3

/-! ### Pumps (Chapter 7) -/

/-- A pump's record. -/
def pumpOf (s : State) (p : PumpId) : Pump := s.pumps.pump.get p

/-- A pump is available (R121). -/
def available (s : State) (p : PumpId) : Bool :=
  fitted s.cfg p && (match (pumpOf s p).state with
    | .off | .pending | .claiming | .surging | .running => true
    | .resting | .fault | .inhibited => false)

/-- The wanted count (R121). -/
def wantedCount (s : State) : Nat := if s.pumps.lagDemand then 2 else if s.pumps.leadDemand then 1 else 0

/-- The called pumps: the first of the available pumps, lead first, as many as the wanted count (R121); none
outside RUN, where there is no demand (R137). -/
def calledPumps (s : State) : List PumpId :=
  if inRun s then
    (([s.pumps.lead, s.pumps.lead.other].filter (available s)).take (wantedCount s))
  else []

/-- A pump is called (R121). -/
def called (s : State) (p : PumpId) : Bool := (calledPumps s).contains p

/-- A pump's HANDOVER request stands: its partner is RUNNING with relief due and is called (R128). -/
def handoverStands (s : State) (p : PumpId) : Bool :=
  (pumpOf s p.other).state == .running && (pumpOf s p.other).relief && called s p.other

/-- Both pumps are RUNNING (R45, R87). -/
def lagRunning (s : State) : Bool :=
  s.pumps.pump.p1.state == .running && s.pumps.pump.p2.state == .running

/-- A pump state whose entering or leaving queues a STATUS (R42). -/
def promptState : PumpState → Bool
  | .running | .off | .fault => true
  | .pending | .claiming | .surging | .resting | .inhibited => false

/-! ### Outputs -/

/-- A probe's electrode is held to ground: in IDLE and in DISCHARGE; in CHARGE it is released, to charge through the
station's internal source (R3, R4, R5, R14, R18, R19). -/
def electrodeGrounded (s : State) (p : ProbeId) : Bool :=
  match (s.probes.get p).phase with
  | .idle | .discharge => true
  | .charge => false

/-- The contactor output of a pump is closed (R118). -/
def contactorClosed (s : State) (p : PumpId) : Bool :=
  match (pumpOf s p).state with
  | .surging | .running => true
  | .off | .pending | .claiming | .resting | .fault | .inhibited => false

/-- GDN is driven (R152). -/
def gdnDriven (s : State) : Bool := s.gate.motor == .down

/-- GUP is driven (R152). -/
def gupDriven (s : State) : Bool := s.gate.motor == .up

/-- A channel's active count in a period: its applied duty, and the whole period for 4095 (R139). -/
def activeCount (d : Nat) : Nat := if d = 4095 then 4096 else d

/-- A channel is active at the present position of the period counter; an UNUSED channel never is (R139). -/
def channelActive (s : State) (ch : ChannelId) : Bool :=
  let c := s.cfg.channel.get ch
  let a := activeCount (s.lamps.applied.get ch)
  c.role != 0 && (if c.startsInactive then decide (4096 - a ≤ s.lamps.period) else decide (s.lamps.period < a))

/-- The level of a lamp pin, `true` for high; low until the PWM runs (R139, R148). -/
def lampPinHigh (s : State) (ch : ChannelId) : Bool :=
  s.lamps.pwmRunning && (channelActive s ch != (s.cfg.channel.get ch).activeLow)

/-- The position inside a period where a channel's output changes, if there is one (R139). -/
def channelEdge (s : State) (ch : ChannelId) : Option Nat :=
  let c := s.cfg.channel.get ch
  let d := s.lamps.applied.get ch
  if c.role = 0 ∨ d = 0 ∨ 4095 ≤ d then none else some (if c.startsInactive then 4096 - d else d)

/-- ECS_N is low: the image is being read (R175). -/
def ecsLow (s : State) : Bool := s.loader.reading

/-- SCK: Fref / 4 while the image is read, resting low (R175); its first clock begins with ECS_N, low for two Fref
periods and then high for two (DESIGN CHOICE, log 37). -/
def sckHigh (s : State) : Bool :=
  s.loader.reading && decide (s.loader.periods < Config.readPeriods) && decide (2 ≤ s.loader.periods % 4)

/-- SDO: the read command 0x03, most significant bit first, then the address zero (R175); low while the data bytes are
clocked in and outside the read (DESIGN CHOICE, log 37). -/
def sdoHigh (s : State) : Bool :=
  s.loader.reading && (s.loader.periods / 4 == 6 || s.loader.periods / 4 == 7)

/-- The ten bits of a character, `true` for mark: start bit, data least significant bit first, stop bit (R22). -/
def characterBits (b : Byte) : List Bool :=
  [false, b.getLsbD 0, b.getLsbD 1, b.getLsbD 2, b.getLsbD 3, b.getLsbD 4, b.getLsbD 5, b.getLsbD 6,
   b.getLsbD 7, true]

/-- The level of a character at a number of sixteenths of a bit time after its starting edge (R22, R23). -/
def characterLevel (b : Byte) (position : Nat) : Bool := (characterBits b).getD (position / Config.bitTime) true

/-- The level the station drives on the bay link, if it drives it: mark is `true` (R23, R35). From the end of its
frame's last stop bit on it has released the line (R23). After a warm restart it drives the rest of the character that
was in progress (R40). -/
def linkDrive (s : State) : Option Bool :=
  match s.link.onLine with
  | some f =>
      f.bytes[f.position / Config.characterTime]?.map fun b => characterLevel b (f.position % Config.characterTime)
  | none => s.link.tail.map fun t => characterLevel t.byte t.position

/-- The line is taken by the station: by a frame of its own, up to that frame's report, or by the last character of a
stopped one (R35, R38, R40). -/
def driving (s : State) : Bool := s.link.onLine.isSome || s.link.tail.isSome

end Sys2Proof.Machine
end

