-- ==== Sys2Proof/Machine/Ops.lean ====
section
/-! DEFINITION. The shared operations over the transmit queue, the counters, the line and the start table: queuing
and withdrawing a frame (R32, R33), posting, dropping, arming and cancelling a request (R93-R95, R106). -/

namespace Sys2Proof.Machine

/-! ### Counts -/

/-- A 16-bit saturating count increased by an amount (R8, R31, R51). -/
def countUp (n k : Nat) : Nat := min Config.countMax (n + k)

/-- Change the link counters. -/
def onCounters (s : State) (f : LinkCounters → LinkCounters) : State :=
  s.onLink fun l => { l with counters := f l.counters }

/-- Add one to RX_OK (R30). -/
def countRxOk (s : State) : State := onCounters s fun c => { c with rxOk := countUp c.rxOk 1 }
/-- Add one to CRC_ERR (R28). -/
def countCrcErr (s : State) : State := onCounters s fun c => { c with crcErr := countUp c.crcErr 1 }
/-- Add one to LENGTH_ERR (R27, R28). -/
def countLengthErr (s : State) : State := onCounters s fun c => { c with lengthErr := countUp c.lengthErr 1 }
/-- Add one to UNKNOWN_KIND (R28). -/
def countUnknownKind (s : State) : State :=
  onCounters s fun c => { c with unknownKind := countUp c.unknownKind 1 }
/-- Add one to FOREIGN (R28). -/
def countForeign (s : State) : State := onCounters s fun c => { c with foreign := countUp c.foreign 1 }
/-- Add one to FRAGMENT (R26). -/
def countFragment (s : State) : State := onCounters s fun c => { c with fragment := countUp c.fragment 1 }
/-- Add one to COLLISION (R36). -/
def countCollision (s : State) : State := onCounters s fun c => { c with collision := countUp c.collision 1 }
/-- Add one to TX_DROPPED (R37). -/
def countTxDropped (s : State) : State := onCounters s fun c => { c with txDropped := countUp c.txDropped 1 }

/-! ### The transmit queue (R32, R33) -/

/-- A slot of the transmit queue. -/
def TxSlots.get (q : TxSlots) : TxKind → Option Nat
  | .status => q.status
  | .claim => q.claim
  | .busy => q.busy
  | .done => q.done
  | .report => q.report

/-- The queue with one slot set. -/
def TxSlots.set (q : TxSlots) (k : TxKind) (v : Option Nat) : TxSlots :=
  match k with
  | .status => { q with status := v }
  | .claim => { q with claim := v }
  | .busy => { q with busy := v }
  | .done => { q with done := v }
  | .report => { q with report := v }

/-- A slot holds a pending frame. -/
def slotHeld (s : State) (k : TxKind) : Bool := (s.link.slots.get k).isSome

/-- Set a slot. -/
def setSlot (s : State) (k : TxKind) (v : Option Nat) : State :=
  s.onLink fun l => { l with slots := l.slots.set k v }

/-- Queue a frame: it enters its slot with a count of 0, in place of one already pending (R32). The Link Controller
takes frames in RUN alone (R39). -/
def queueFrame (s : State) (k : TxKind) : State := if inRun s then setSlot s k (some 0) else s

/-- Withdraw the pending frame of a slot; an empty slot stays as it is (R33). -/
def withdraw (s : State) (k : TxKind) : State := setSlot s k none

/-- Queue a STATUS (R41, R42). -/
def promptStatus (s : State) : State := queueFrame s .status

/-- A DONE of this station is pending or on the line (R98). -/
def doneInFlight (s : State) : Bool :=
  slotHeld s .done || (match s.link.onLine with
    | some f => f.kind == .done
    | none => false)

/-! ### The line (R24) -/

/-- The line idle time restarts from zero: the end of a stop bit, or a return to mark (R24). -/
def idleRestart (s : State) : State := s.onLink fun l => { l with idle := 0, idleCounting := true }

/-- The line leaves mark: the idle time stays at zero (R24). -/
def idleStop (s : State) : State := s.onLink fun l => { l with idle := 0, idleCounting := false }

/-! ### The start table -/

/-- Change one entry of the start table. -/
def onEntry (s : State) (r : Requester) (f : Entry → Entry) : State :=
  s.onArb fun a => { a with table := a.table.upd r f }

/-- The level a reason fixes (R92); `relieved` is the pump a HANDOVER relieves. -/
def levelOf (c : StationConfig) (r : Requester) : Reason → Nat
  | .demand => (match r with
      | .p2 => c.lvPump.p2
      | _ => c.lvPump.p1)
  | .handover => (match r with
      | .p2 => c.lvPump.p1
      | _ => c.lvPump.p2)
  | .exercise => 6
  | .lower => c.lvLower
  | .raise => c.lvRaise
  | .relight => c.lvRelight

/-- The trigger a reason fixes (R92). -/
def triggerOf : Reason → Trigger
  | .demand | .handover => .level
  | .exercise | .lower | .raise | .relight => .edge

/-- The request that a requester posts for a reason (R92). -/
def requestFor (c : StationConfig) (r : Requester) (q : Reason) : Request :=
  { reason := q, level := levelOf c r q, trigger := triggerOf q }

/-- An entry that is masked carries no budget-held mark (R96). -/
def settleMask (floor : Nat) (e : Entry) : Entry :=
  if maskedAt floor e then { e with budgetHeld := false } else e

/-- A request becomes an entry's pending one; an entry that was not pending has become so (R92, R98). -/
def makePending (q : Request) (e : Entry) : Entry :=
  { e with pending := true, request := some q, posts := if e.pending then e.posts else e.posts + 1 }

/-- A post to an entry: to a served entry it becomes the held request, to any other the pending request (R92, R95).
An EDGE post needs the entry armed and disarms it (R94), also where it becomes the held request of a served entry
(DESIGN CHOICE, log 47). -/
def postTo (floor : Nat) (q : Request) (e : Entry) : Entry :=
  if q.trigger == .edge && !e.armed then e
  else
    let e := if q.trigger == .edge then { e with armed := false } else e
    if e.served then { e with held := some q }
    else settleMask floor (makePending q e)

/-- A requester posts a request; posts reach the start table in RUN (R92). -/
def post (s : State) (r : Requester) (q : Reason) : State :=
  if inRun s then onEntry s r (postTo (stageFloor s.stage.stage) (requestFor s.cfg r q)) else s

/-- An entry that stops being pending: its request and its budget-held mark go (R93, R94). -/
def clearPending (e : Entry) : Entry := { e with pending := false, request := none, budgetHeld := false }

/-- The held request of an entry is discarded (R95). -/
def discardHeld (e : Entry) : Entry := { e with held := none }

/-- A drop: a pending entry is cleared; a served entry only loses its held request (R93, R95). -/
def dropTo (e : Entry) : Entry :=
  if e.served then discardHeld e else if e.pending then clearPending e else e

/-- A requester drops its LEVEL request (R93). -/
def dropRequest (s : State) (r : Requester) : State := onEntry s r dropTo

/-- Re-arm an entry (R94). -/
def rearm (s : State) (r : Requester) : State := onEntry s r fun e => { e with armed := true }

/-- The served mark clears without a return to pending: the entry becomes not pending and its held request goes
(R95, R106, R107, R110). -/
def endEntry (e : Entry) : Entry :=
  { e with pending := false, request := none, held := none, budgetHeld := false, served := false }

/-- A served entry returns to pending, with its held request in place of the served one (R95, R101). -/
def returnEntry (e : Entry) : Entry :=
  { e with
    pending := true
    request := (match e.held with
      | some q => some q
      | none => e.request)
    held := none
    budgetHeld := false
    served := false }

/-! ### The own claim -/

/-- The own claim state returns to IDLE: its timers are cleared and its flags fall (R100, R101). -/
def claimIdle (s : State) : State :=
  s.onArb fun a =>
    { a with claim := .idle, window := .cleared, surge := .cleared, busyHeard := false, cancelHeld := false }

/-- The DONE record of a served entry (R103, R110). -/
def doneRecordOf (r : Requester) (e : Entry) (o : DoneOutcome) : DoneRecord :=
  { requester := r
    reason := (match e.request with
      | some q => q.reason
      | none => .demand)
    outcome := o }

/-- Queue a DONE for the served requester, setting the DONE record anew (R115). -/
def queueDone (s : State) (r : Requester) (o : DoneOutcome) : State :=
  queueFrame (s.onArb fun a => { a with done := some (doneRecordOf r (a.table.get r) o) }) .done

/-- A requester cancels its served entry (R106). In CLAIM_QUEUED a CLAIM that is still in its slot is withdrawn and
no DONE goes out; one already on the line leaves the claim to its report, with the cancel-held flag set, and the
request that the entry holds is discarded at once, so that no substitution brings it back (R95, R105, R126, R131,
R134). A reasserted CLAIM that has come back to its slot is withdrawn with the claim it stands for, in SURGE too
(R103). "Abandoned" reaches a requester that its own chapter has already moved (log 33). -/
def cancelServed (s : State) (r : Requester) : State :=
  match s.arb.claim with
  | .idle => s
  | .claimQueued =>
      if slotHeld s .claim then claimIdle (onEntry (withdraw s .claim) r endEntry)
      else onEntry (s.onArb fun a => { a with cancelHeld := true }) r discardHeld
  | .claimWait => claimIdle (onEntry (queueDone (withdraw s .claim) r .abandoned) r endEntry)
  | .surge => claimIdle (onEntry (queueDone (withdraw (withdraw s .claim) .busy) r .abandoned) r endEntry)

/-- A requester cancels its entry: a pending one is cleared (R94), a served one ends its claim (R106), any other is
left as it is (R158). -/
def cancelEntry (s : State) (r : Requester) : State :=
  if (entryOf s r).served then cancelServed s r
  else if (entryOf s r).pending then onEntry s r clearPending
  else s

/-- Set the service mask of an entry; a served entry's claim ends (R95, R106). -/
def setMask (s : State) (r : Requester) : State :=
  let s := if (entryOf s r).served then cancelServed s r else s
  onEntry s r fun e => { e with mask := true, budgetHeld := false }

/-- Clear the service mask of an entry (R95). -/
def clearMask (s : State) (r : Requester) : State := onEntry s r fun e => { e with mask := false }

end Sys2Proof.Machine
end

