-- ==== Sys2Proof/Machine/Headroom.lean ====
section
/-! DEFINITION. The Headroom Unit's account (Chapter 5): own draw, headroom, start test and the shed-capable flag. -/

namespace Sys2Proof.Machine

/-! ### Own draw (R74-R77) -/

/-- A pump's surge draw Sp (R74). -/
def pumpSurgeDraw (c : StationConfig) (p : PumpId) : Nat := ceilDiv ((c.pump.get p).prun * (c.pump.get p).ks) 8

/-- What a pump contributes (R74). -/
def pumpDraw (s : State) (p : PumpId) : Nat :=
  match (pumpOf s p).state with
  | .surging => pumpSurgeDraw s.cfg p
  | .running => (s.cfg.pump.get p).prun
  | .off | .pending | .claiming | .resting | .fault | .inhibited => 0

/-- The gate motor's surge draw Sg (R75). -/
def gateSurgeDraw (c : StationConfig) : Nat := ceilDiv (c.pgate * c.kg) 8

/-- The gate is in its surge: served in SURGE, or under the LOCAL key while the local surge timer runs (R75). -/
def gateInSurge (s : State) : Bool := inSurge s .gate || s.gate.localSurge.phase == .running

/-- What the gate motor contributes; a BAY station has none (R75). -/
def gateDraw (s : State) : Nat :=
  if !s.cfg.portal then 0
  else if gateInSurge s then gateSurgeDraw s.cfg
  else if s.gate.motor == .off then 0
  else s.cfg.pgate

/-- A channel's draw at a duty (R76). -/
def dutyDraw (c : ChannelCfg) (d : Nat) : Nat := ceilDiv (c.lfull * d) 4095

/-- The duty a channel would be given with relight-needed clear (R81). -/
def litDuty (s : State) (ch : ChannelId) : Nat :=
  if isNormal s ch then scaledDuty (activeTarget s ch) s.head.scale
  else if isWarning s ch && warningCondition s then activeTarget s ch
  else 0

/-- LT, the draw the lamps would take once lit (R81). -/
def lampTotal (s : State) : Nat := channelSum fun ch => dutyDraw (s.cfg.channel.get ch) (litDuty s ch)

/-- The lamp surge draw Sl (R81). -/
def lampSurgeDraw (s : State) : Nat := ceilDiv (lampTotal s * s.cfg.kl) 8

/-- The duty at which a lit channel counts: a WARNING channel that flashes counts at its full target in both phases,
and every used channel at 4095 during a lamp test (R76). -/
def countedDuty (s : State) (ch : ChannelId) : Nat :=
  if s.lamps.test.phase == .running then (if isNormal s ch || isWarning s ch then 4095 else 0)
  else if isNormal s ch then s.lamps.computed.get ch
  else if isWarning s ch && s.lamps.warning then activeTarget s ch
  else 0

/-- What the lamp channels contribute together (R76). -/
def lampDraw (s : State) : Nat :=
  match s.lamps.bank with
  | .dark => 0
  | .relighting => lampSurgeDraw s
  | .lit => channelSum fun ch => dutyDraw (s.cfg.channel.get ch) (countedDuty s ch)

/-- The own draw D_self, formed in full (R77). -/
def ownDraw (s : State) : Nat := pumpDraw s .p1 + pumpDraw s .p2 + gateDraw s + lampDraw s

/-! ### Headroom (R78-R80) -/

/-- The sum of the draws last reported by the FRESH and STALE peers (R78). -/
def peerDraw (s : State) : Nat := ((usablePeers s).map PeerContents.draw).sum

/-- The headroom outside ISOLATED (R78). -/
def sharedHeadroom (s : State) : Int :=
  clampInt (-4095) 4095
    ((capacity s.cfg s.head.supply : Int) - s.cfg.margin - ownDraw s - peerDraw s - s.cfg.aLost * lostCount s)

/-- The share of the capacity of an ISOLATED station, a share below 0 taken as 0 (R79). -/
def isolatedShare (s : State) : Nat := (capacity s.cfg s.head.supply - s.cfg.margin) / rosterCount s.cfg

/-- The headroom while ISOLATED is set (R79). -/
def isolatedHeadroom (s : State) : Int := clampInt (-4095) 4095 ((isolatedShare s : Int) - ownDraw s)

/-- The headroom H, computed afresh (R78, R79). -/
def headroomOf (s : State) : Int := if s.peers.isolated then isolatedHeadroom s else sharedHeadroom s

/-- Compute the headroom and store it (R80). -/
def storeHeadroom (s : State) : State := s.onHead fun u => { u with h := headroomOf s }

/-- The surge draw Sd of a requester (R81). -/
def surgeDrawOf (s : State) : Requester → Nat
  | .gate => gateSurgeDraw s.cfg
  | .p1 => pumpSurgeDraw s.cfg .p1
  | .p2 => pumpSurgeDraw s.cfg .p2
  | .lamps => lampSurgeDraw s

/-- The answer of the start test (R82). -/
def startTestPasses (s : State) (r : Requester) : Bool :=
  !noSupply s && decide ((surgeDrawOf s r : Int) ≤ headroomOf s)

/-! ### Shed-capable (R85) -/

/-- LF, the full-scale draw of the NORMAL channels (R85). -/
def fullLampDraw (s : State) : Nat :=
  channelSum fun ch => if isNormal s ch then dutyDraw (s.cfg.channel.get ch) (activeTarget s ch) else 0

/-- The three conditions of shed-capable (R85). -/
def shedCondition (s : State) : Bool :=
  !relightNeeded s && !noSupply s && decide (s.cfg.sMin < s.head.scale) && decide (0 < fullLampDraw s)

/-- Judge the shed-capable flag afresh (R85). -/
def judgeShed (s : State) : State := s.onHead fun u => { u with shedCapable := shedCondition s }

end Sys2Proof.Machine
end

