-- ==== Sys2Proof/Machine/LampOps.lean ====
section
/-! DEFINITION. The Lamp Controller's operations (Chapter 8): computed duties, warning active, the bank's reactions to
the supply and to the Start Arbiter. -/

namespace Sys2Proof.Machine

/-- A WARNING channel's duty from the flash phase (R144). -/
def flashDuty (s : State) (ch : ChannelId) : Nat := if s.lamps.flash == .on then activeTarget s ch else 0

/-- A channel's duty in FALLBACK (R150). -/
def fallbackDuty (s : State) (ch : ChannelId) : Nat :=
  if isNormal s ch then 4095 else if isWarning s ch then flashDuty s ch else 0

/-- A channel's duty in RELIGHTING and LIT with no lamp test (R142, R144). -/
def litChannelDuty (s : State) (ch : ChannelId) : Nat :=
  if isNormal s ch then scaledDuty (activeTarget s ch) s.head.scale
  else if isWarning s ch then flashDuty s ch
  else 0

/-- The duty a channel should have (R142, R144, R145, R147, R150). -/
def dutyOf (s : State) (ch : ChannelId) : Nat :=
  if s.mode == .fallback then fallbackDuty s ch
  else if s.lamps.bank == .dark then 0
  else if s.lamps.test.phase == .running then (if isNormal s ch || isWarning s ch then 4095 else 0)
  else litChannelDuty s ch

/-- Compute every channel's duty afresh. -/
def recomputeDuties (s : State) : State := s.onLamps fun l => { l with computed := .build (dutyOf s) }

/-- Judge warning active (R143). When it becomes set the flash timer starts in its ON phase and a lamp test ends
(R144, R147); when it becomes clear the flash timer stops. -/
def judgeWarning (s : State) : State :=
  if warningCondition s == s.lamps.warning then s
  else if warningCondition s then
    recomputeDuties (s.onLamps fun l =>
      { l with warning := true, flash := .on, flashCount := 0, test := .cleared })
  else
    recomputeDuties (s.onLamps fun l => { l with warning := false, flash := .stopped, flashCount := 0 })

/-- Set the bank condition, with the duties that follow from it. -/
def setBank (s : State) (b : Bank) : State := recomputeDuties (s.onLamps fun l => { l with bank := b })

/-- The Lamp Controller posts RELIGHT (R146). -/
def postRelight (s : State) : State := post s .lamps .relight

/-- The supply mode becomes NONE: the bank goes to DARK, a lamp test ends, a pending RELIGHT is cancelled and the
entry is re-armed; a served entry is the Start Arbiter's to end (R145). -/
def lampsSupplyLost (s : State) : State :=
  let s := setBank (s.onLamps fun l => { l with test := .cleared }) .dark
  let s := if (entryOf s .lamps).served then s else cancelEntry s .lamps
  rearm s .lamps

/-- "surge start": DARK to RELIGHTING (R146). -/
def lampsSurgeStart (s : State) : State := if s.lamps.bank == .dark then setBank s .relighting else s

/-- "surge end": RELIGHTING to LIT, and the change of relight-needed judged by the Headroom Unit (R146). -/
def lampsSurgeEnd (s : State) : State := if s.lamps.bank == .relighting then judgeShed (setBank s .lit) else s

/-- "abandoned": back to DARK and re-armed; with the supply mode not NONE, RELIGHT is posted again at once (R146). -/
def lampsAbandoned (s : State) : State :=
  match s.lamps.bank with
  | .lit => s
  | .dark => rearm s .lamps
  | .relighting =>
      let s := rearm (setBank s .dark) .lamps
      if noSupply s then s else postRelight s

/-- A new lamp scale is handed over: the NORMAL duties are computed afresh (R86, R142). -/
def setScale (s : State) (n : Nat) : State := recomputeDuties (s.onHead fun u => { u with scale := n })

end Sys2Proof.Machine
end

