-- ==== Sys2Proof/Machine/GateOps.lean ====
section
/-! DEFINITION. The Gate Controller's operations (Chapter 9): entering a state with its entry actions, the closing
path, the derivation, the LOCAL key, and the reactions to the stage, the supply and the Start Arbiter. -/

namespace Sys2Proof.Machine

/-! ### Entering states -/

/-- A gate state that holds a start request (R158). -/
def postingState : GateState → Bool
  | .lowerPending | .raisePending => true
  | .atOpen | .warning | .holding | .lowering | .lowerPaused | .closed | .raising | .fault => false

/-- A gate state in which the motor moves the arm (R166). -/
def movingState : GateState → Bool
  | .lowering | .raising => true
  | .atOpen | .warning | .holding | .lowerPending | .lowerPaused | .closed | .raisePending | .fault => false

/-- The blocked timer at entry to a state: from 0, or from its held count, in HOLDING; from 0 in LOWER_PAUSED; its
count held in LOWER_PENDING; cleared in any other state (R156, R159). -/
def blockedTimerIn (t : Timer) : GateState → Timer
  | .holding => (match t.phase with
      | .stopped => .fromZero
      | .held => { t with phase := .running }
      | .running | .atLimit => t)
  | .lowerPaused => .fromZero
  | .lowerPending => (match t.phase with
      | .running => { t with phase := .held }
      | .stopped | .held | .atLimit => t)
  | .atOpen | .warning | .lowering | .closed | .raisePending | .raising | .fault => .cleared

/-- A gate state in which GATE_BLOCKED may stand (R156). -/
def blockedState : GateState → Bool
  | .holding | .lowerPaused | .lowerPending => true
  | .atOpen | .warning | .lowering | .closed | .raisePending | .raising | .fault => false

/-- The fields that follow a change of gate state: the blocked timer and GATE_BLOCKED (R156), the fault cause, the
warning and reopen timers outside WARNING and CLOSED (log 17), stopped by loss outside LOWERING and RAISING (R166,
log 14). -/
def gateInState (g : GateControl) (st : GateState) : GateControl :=
  { g with
    state := st
    cause := if st == .fault then g.cause else none
    blocked := blockedTimerIn g.blocked st
    blockedFlag := g.blockedFlag && blockedState st
    stoppedByLoss := g.stoppedByLoss && movingState st
    warning := if st == .warning then g.warning else .cleared
    reopen := if st == .closed then g.reopen else .cleared }

/-- Change the gate state: a new value queues a STATUS and is judged by the Lamp Controller (R42, R143, R152), and the
GATE entry is re-armed when the gate leaves LOWER_PENDING or RAISE_PENDING (R158). -/
def setGateState (s : State) (st : GateState) : State :=
  let old := s.gate.state
  let s := s.onGate fun g => gateInState g st
  let s := if postingState old then rearm s .gate else s
  if old == st then s else judgeWarning (promptStatus s)

/-- Set the motor (R152). -/
def setMotor (s : State) (m : Motor) : State := s.onGate fun g => { g with motor := m }

/-- Enter WARNING: the warning timer starts and the travel timer is cleared (R155). -/
def enterWarning (s : State) : State :=
  (setGateState s .warning).onGate fun g => { g with warning := .fromZero, travel := .cleared }

/-- Enter OPEN; with a closing cause of R154 standing the gate passes on to WARNING at once (R154). -/
def enterOpen (s : State) : State :=
  let s := setGateState s .atOpen
  if closesFromOpen s then enterWarning s else s

/-- Enter HOLDING (R156). -/
def enterHolding (s : State) : State := setGateState s .holding

/-- Enter LOWER_PENDING, posting LOWER (R158). -/
def enterLowerPending (s : State) : State := post (setGateState s .lowerPending) .gate .lower

/-- Enter LOWERING: the motor goes DOWN and the travel timer runs from 0 or from its suspended count (R158). -/
def enterLowering (s : State) : State :=
  (setGateState s .lowering).onGate fun g =>
    { g with motor := .down, travel := { phase := .running, count := g.travel.count } }

/-- Enter LOWER_PAUSED from LOWERING: the motor goes off and the travel timer is suspended (R159). -/
def enterLowerPaused (s : State) : State :=
  (setGateState s .lowerPaused).onGate fun g =>
    { g with motor := .off, travel := { phase := .held, count := g.travel.count } }

/-- Enter CLOSED: the motor is off, the close order and the travel timer are cleared, and the reopen timer starts when
the stage is DRY or WET (R160). -/
def enterClosed (s : State) : State :=
  (setGateState s .closed).onGate fun g =>
    { g with
      motor := .off
      closeOrder := false
      travel := .cleared
      reopen := if isLowStage s then .fromZero else .cleared }

/-- Enter RAISE_PENDING, posting RAISE, with the travel timer cleared (R161). -/
def enterRaisePending (s : State) : State :=
  post ((setGateState s .raisePending).onGate fun g => { g with travel := .cleared }) .gate .raise

/-- Enter RAISING: the motor goes UP and the travel timer starts from 0 (R161). -/
def enterRaising (s : State) : State :=
  (setGateState s .raising).onGate fun g => { g with motor := .up, travel := .fromZero }

/-- Enter FAULT with a cause (R162). -/
def enterGateFault (s : State) (cause : GateCause) : State :=
  let s := cancelEntry s .gate
  (setGateState s .fault).onGate fun g =>
    { g with
      cause := some cause
      motor := .off
      travel := .cleared
      localSurge := .cleared
      closeOrder := false }

/-! ### Shared moves -/

/-- OPEN where the UP limit is asserted, RAISE_PENDING otherwise (R157, R167). -/
def openOrRaise (s : State) : State := if s.inputs.limUp.level then enterOpen s else enterRaisePending s

/-- The gate leaves the closing path: its entry is cancelled (R157). -/
def leaveClosingPath (s : State) : State := openOrRaise (cancelEntry s .gate)

/-- A gate state from which the closing path may be left (R157). -/
def leavableState : GateState → Bool
  | .warning | .holding | .lowerPending => true
  | .atOpen | .lowering | .lowerPaused | .closed | .raisePending | .raising | .fault => false

/-- Judge the closing causes: a gate that has not started to lower leaves the closing path when none stands (R157). -/
def judgeClosing (s : State) : State :=
  if leavableState s.gate.state && s.gate.travel.count == 0 && !closingCause s then leaveClosingPath s else s

/-- A gate on its way up goes to WARNING: its motor stops and its entry is cancelled if pending, or served and in its
surge (R161). -/
def reverseToWarning (s : State) : State :=
  match s.gate.state with
  | .raisePending => enterWarning (cancelEntry s .gate)
  | .raising =>
      let s := setMotor s .off
      enterWarning (if inSurge s .gate then cancelEntry s .gate else s)
  | .atOpen => enterWarning s
  | .warning | .holding | .lowerPending | .lowering | .lowerPaused | .closed | .fault => s

/-! ### Derivation and the LOCAL key -/

/-- The gate state under the LOCAL key, outside FAULT (R164). With the motor off and both limits asserted, where no
assertion of a limit is there to be judged under R162, the UP limit is looked at first (DESIGN CHOICE, log 43). -/
def trackedState (s : State) : GateState :=
  match s.gate.motor with
  | .down => .lowering
  | .up => .raising
  | .off =>
      if s.inputs.limUp.level then .atOpen else if s.inputs.limDown.level then .closed else .lowerPaused

/-- Take the LOCAL tracking state. Neither a wait for the loops nor a closed gate's way to reopening is timed under
LOCAL: the blocked timer and the reopen timer, which the turn to LOCAL has cleared, do not start (R160, R164; DESIGN
CHOICE, log 15). -/
def takeTracked (s : State) : State :=
  (setGateState s (trackedState s)).onGate fun g => { g with blocked := .cleared, blockedFlag := false }

/-- Under LOCAL the gate state tracks the arm; a gate in FAULT stays there (R164). -/
def trackArm (s : State) : State := if s.gate.state == .fault then s else takeTracked s

/-- The motor goes off under LOCAL: the travel and local surge timers are cleared (R165). -/
def localMotorOff (s : State) : State :=
  trackArm (s.onGate fun g => { g with motor := .off, travel := .cleared, localSurge := .cleared })

/-- The motor starts under LOCAL: the travel and local surge timers start from 0 (R165). -/
def localMotorOn (s : State) (m : Motor) : State :=
  trackArm (s.onGate fun g => { g with motor := m, travel := .fromZero, localSurge := .fromZero })

/-- Derive the gate state with its entry actions (R163). -/
def deriveGate (s : State) : State :=
  if keyLocal s then trackArm s
  else if s.inputs.limUp.level && s.inputs.limDown.level then enterGateFault s .limits
  else if s.inputs.limUp.level then enterOpen s
  else if s.inputs.limDown.level then enterClosed s
  else if isFlood s || s.gate.holdClosed then enterWarning s
  else enterRaisePending s

/-- A gate whose fault is cleared has its state derived; both limits asserted put it in FAULT in either key position,
and under LOCAL it leaves FAULT for its tracking state (R162, R163). -/
def deriveCleared (s : State) : State :=
  if s.inputs.limUp.level && s.inputs.limDown.level then enterGateFault s .limits
  else if keyLocal s then takeTracked s
  else deriveGate s

/-- A state that the derivation gives, with the judgement of the closing causes that OPEN makes at once (R154,
R163). -/
def settledOpen (s : State) : GateState := if closesFromOpen s then .warning else .atOpen

/-- The value that the derivation gives at a warm restart, with the motor off; the timers and requests of its entry
actions wait for the new entry to RUN (R163, R169). -/
def derivedState (s : State) : GateState :=
  if keyLocal s then
    (if s.gate.state == .fault then .fault
     else if s.inputs.limUp.level then .atOpen
     else if s.inputs.limDown.level then .closed
     else .lowerPaused)
  else if s.inputs.limUp.level && s.inputs.limDown.level then .fault
  else if s.inputs.limUp.level then settledOpen s
  else if s.inputs.limDown.level then .closed
  else if isFlood s || s.gate.holdClosed then .warning
  else .raisePending

/-! ### Reactions -/

/-- The loops become occupied (R158, R159, R165). -/
def gateLoopsOccupied (s : State) : State :=
  if keyLocal s then (if s.gate.motor == .down then localMotorOff s else s)
  else match s.gate.state with
  | .lowerPending => enterHolding (cancelEntry s .gate)
  | .lowering => enterLowerPaused (if inSurge s .gate then cancelEntry s .gate else s)
  | .atOpen | .warning | .holding | .lowerPaused | .closed | .raisePending | .raising | .fault => s

/-- The reopen timer of a CLOSED gate at a change of the stage (R160). -/
def reopenAtStage (old new : Stage) (t : Timer) : Timer :=
  if stageFloor new < 7 then .cleared
  else if stageCode old < stageCode new then .fromZero
  else if stageFloor old < 7 then .fromZero
  else t

/-- A change of the stage reaches the gate (R154, R157, R160, R161). -/
def gateStageChange (s : State) (old : Stage) : State :=
  if !gateAtWork s || keyLocal s then s
  else
    match s.gate.state with
    | .atOpen => if isFlood s && s.cfg.autoClose then enterWarning s else s
    | .raisePending | .raising => if isFlood s then reverseToWarning s else s
    | .warning | .holding | .lowerPending => judgeClosing s
    | .closed => s.onGate fun g => { g with reopen := reopenAtStage old s.stage.stage g.reopen }
    | .lowering | .lowerPaused | .fault => s

/-- The supply mode becomes NONE: the motor goes off; a gate in LOWERING or RAISING keeps its state with its travel
timer suspended and stopped by loss set (R166); under LOCAL the state tracks the arm (log 15). -/
def gateSupplyLost (s : State) : State :=
  if !gateAtWork s then s
  else if keyLocal s then localMotorOff s
  else if movingState s.gate.state then
    s.onGate fun g =>
      { g with motor := .off, stoppedByLoss := true, travel := { phase := .held, count := g.travel.count } }
  else setMotor s .off

/-- The supply mode leaves NONE: a gate stopped by loss has its state derived (R166). -/
def gateSupplyBack (s : State) : State :=
  if gateAtWork s && s.gate.stoppedByLoss then
    deriveGate (s.onGate fun g => { g with stoppedByLoss := false })
  else s

/-- "surge start" for GATE (R158, R161). -/
def gateSurgeStart (s : State) : State :=
  match s.gate.state with
  | .lowerPending => enterLowering s
  | .raisePending => enterRaising s
  | .atOpen | .warning | .holding | .lowering | .lowerPaused | .closed | .raising | .fault => s

/-- The gate still wants the start that its served entry asks for (R107). -/
def gateWantsStart (s : State) : Bool := postingState s.gate.state

/-- Restart or clear the dwell timer when the loops pass between clear and occupied, and let the gate act (R153). -/
def loopsChanged (before : Bool) (s : State) : State :=
  if loopsClear s == before then s
  else if loopsClear s then s.onGate fun g => { g with dwell := .fromZero }
  else gateLoopsOccupied (s.onGate fun g => { g with dwell := .cleared })

end Sys2Proof.Machine
end

