-- ==== Sys2Proof/Machine/PumpOps.lean ====
section
/-! DEFINITION. The Pump Controller's operations (Chapter 7): a pump's entries to its states, the demand latches, the
calls, handover and exercise requests, float starts and the reactions to the stage and the supply. -/

namespace Sys2Proof.Machine

/-! ### One pump's record -/

/-- Change one pump. -/
def onPump (s : State) (p : PumpId) (f : Pump → Pump) : State :=
  s.onPumps fun c => { c with pump := c.pump.upd p f }

/-- The pump's thermal input is asserted and watched: the supply mode is not NONE (R126). -/
def thermalAsserted (s : State) (p : PumpId) : Bool := (s.inputs.thermal.get p).level && !noSupply s

/-- A pump state from which an asserted thermal input takes the pump to FAULT (R126). -/
def thermalWatched : PumpState → Bool
  | .off | .pending | .claiming | .surging | .running | .resting => true
  | .fault | .inhibited => false

/-- A pump no longer stands as a warm restart left it: the calls judge it like any other (R122, R138, log 20). -/
def settleLeft (s : State) (p : PumpId) : State :=
  s.onPumps fun c => { c with leftRunning := c.leftRunning.upd p fun _ => false }

/-- Change a pump's state; a state of R42 entered or left queues a STATUS. -/
def setPumpState (s : State) (p : PumpId) (st : PumpState) : State :=
  let old := (pumpOf s p).state
  let s := settleLeft (onPump s p fun q => { q with state := st }) p
  if old != st && (promptState old || promptState st) then promptStatus s else s

/-- A pump's exercise timer when it leaves OFF for PENDING: its count is held (R130). -/
def exerciseHeld (t : Timer) : Timer :=
  match t.phase with
  | .running => { t with phase := .held }
  | .stopped | .held | .atLimit => t

/-- An exercise timer that goes on towards its limit Tex: from 0 after a run, from its held count otherwise, and
standing at its limit if it is due. One that stood at the limit of an earlier image runs on where Tex is now larger
(R130, R138). -/
def exerciseGoesOn (limit : Nat) (afterRun : Bool) (t : Timer) : Timer :=
  if afterRun then .fromZero
  else if t.phase == .atLimit && decide (limit ≤ t.count) then t
  else { phase := .running, count := t.count }

/-- A pump's exercise timer at its entry to OFF: not counting in FALLBACK, for a pump that is not fitted, or with
Tex = 0; held in START (R130, R137, R138). -/
def exerciseInOff (s : State) (p : PumpId) (old : PumpState) (t : Timer) : Timer :=
  if s.mode == .fallback || !fitted s.cfg p || exerciseMs s.cfg p == 0 then .cleared
  else if s.mode == .start then exerciseHeld (exerciseGoesOn (exerciseMs s.cfg p) (old == .running) t)
  else exerciseGoesOn (exerciseMs s.cfg p) (old == .running) t

/-- The pump is due for exercise: its exercise timer stands at its limit (R130). -/
def exerciseIsDue (s : State) (p : PumpId) : Bool := (pumpOf s p).exercise.phase == .atLimit

/-- The lead designation passes from one pump to the other (R124). -/
def passLead (s : State) : State := s.onPumps fun c => { c with lead := c.lead.other }

/-! ### Entries to OFF, FAULT and INHIBITED -/

/-- The fields of a pump in OFF (R118, R122, R133). -/
def pumpInOff (s : State) (p : PumpId) (old : PumpState) (q : Pump) : Pump :=
  { q with
    reason := none
    cause := none
    runPhase := .run
    run := .cleared
    relief := false
    runSense := .cleared
    thermal := .cleared
    floatSurge := .cleared
    exercise := exerciseInOff s p old q.exercise }

/-- A pump enters OFF: its contactor is open, its run is over, its EXERCISE entry is re-armed and its exercise timer
counts (R118, R130). The thermal input is judged by `enterOff`. -/
def offBasic (s : State) (p : PumpId) : State :=
  let old := (pumpOf s p).state
  rearm (onPump (setPumpState s p .off) p (pumpInOff s p old)) (pumpRequester p)

/-- The fields of a pump in FAULT or INHIBITED (R127, R135). -/
def pumpStopped (cause : Option PumpCause) (q : Pump) : Pump :=
  { q with
    reason := none
    cause := cause
    runPhase := .run
    run := .cleared
    relief := false
    runSense := .cleared
    thermal := .cleared
    exercise := .cleared
    floatSurge := .cleared }

/-- A pump enters FAULT: its request is dropped or cancelled and its timers are cleared (R126, R127). -/
def faultBasic (s : State) (p : PumpId) (cause : PumpCause) : State :=
  cancelEntry (onPump (setPumpState s p .fault) p (pumpStopped (some cause))) (pumpRequester p)

/-- The lead designation passes when the lead pump is out of service and its partner is fitted and in neither FAULT
nor INHIBITED (R124). -/
def passLeadFrom (s : State) (p : PumpId) : State :=
  if s.pumps.lead == p && fitted s.cfg p.other &&
      (pumpOf s p.other).state != .fault && (pumpOf s p.other).state != .inhibited then passLead s
  else s

/-- A pump in RESTING has its rest waived and goes to OFF, where its thermal input is judged (R126, R127, R129). -/
def waiveRest (s : State) (p : PumpId) : State :=
  if (pumpOf s p).state == .resting then
    let s := offBasic s p
    if thermalAsserted s p then faultBasic s p .thermal else s
  else s

/-- A pump enters FAULT, with what follows for its partner and for the lead designation (R127). -/
def enterFault (s : State) (p : PumpId) (cause : PumpCause) : State :=
  passLeadFrom (waiveRest (faultBasic s p cause) p.other) p

/-- A pump enters OFF and is judged under R126. -/
def enterOff (s : State) (p : PumpId) : State :=
  let s := offBasic s p
  if thermalAsserted s p then enterFault s p .thermal else s

/-! ### Demand (R119, R120) -/

/-- The two latches as the sump depth gives them (R119). -/
def latchesBySump (s : State) (depth : Nat) : Bool × Bool :=
  let lagSet := decide (s.cfg.sStart2 ≤ depth) || (isFlood s && decide (s.cfg.sStop < depth))
  let leadSet := decide (s.cfg.sStart1 ≤ depth) || lagSet
  let clear := decide (depth ≤ s.cfg.sStop)
  if clear then (false, false)
  else (s.pumps.leadDemand || leadSet, s.pumps.lagDemand || lagSet)

/-- The two latches while the sump depth is UNKNOWN (R120). -/
def latchesByRoad (s : State) : Bool × Bool :=
  let lagSet := isFlood s
  let wet := match s.probes.b.depth with
    | some d => decide (0 < d)
    | none => false
  let leadSet := wet || isFlood s || s.stage.stage == .alert
  let clear := s.probes.b.depth == some 0 && isLowStage s
  if clear then (false, false)
  else (s.pumps.leadDemand || leadSet, s.pumps.lagDemand || lagSet)

/-- Judge the demand latches (R119, R120). The pumps that a warm restart has left RUNNING are judged with them
(R138). -/
def judgeLatches (s : State) : State :=
  let l := match s.probes.a.depth with
    | some d => latchesBySump s d
    | none => latchesByRoad s
  s.onPumps fun c => { c with leadDemand := l.1, lagDemand := l.2, leftRunning := ⟨false, false⟩ }

/-! ### Calls (R122) -/

/-- A pump posts a request from OFF or PENDING and stands in PENDING with its reason; a request that is not taken
leaves it where it stands (R94, R122, R128, R130). -/
def pumpPosts (s : State) (p : PumpId) (q : Reason) (reason : PumpReason) : State :=
  let s := post s (pumpRequester p) q
  onPump (setPumpState s p .pending) p fun x =>
    { x with reason := some reason, exercise := exerciseHeld x.exercise }

/-- The expiry of the run limit is taken: relief due is set (R128). -/
def judgeRunLimit (s : State) (p : PumpId) : State :=
  let q := pumpOf s p
  if q.state == .running && (q.reason == some .demand || q.reason == some .handover) && !isFlood s &&
      runLimitMs s.cfg p != 0 && decide (runLimitMs s.cfg p ≤ q.run.count) then
    onPump s p fun x => { x with relief := true }
  else s

/-- A RUNNING pump takes reason DEMAND (R122, R128, R132). -/
def takeDemand (s : State) (p : PumpId) : State :=
  judgeRunLimit (onPump s p fun q => { q with reason := some .demand, exercise := .cleared }) p

/-- The lead designation passes at a demand stop of one pump while the other is OFF (R124). -/
def passLeadAtStop (s : State) (p : PumpId) : State :=
  if fitted s.cfg p.other && (pumpOf s p.other).state == .off then passLead s else s

/-- A demand stop: the pump goes to OFF and the lead designation passes if the other pump is OFF; the pump is then
judged under R126 (R122, R124; the order of the two is a DESIGN CHOICE, log 35). -/
def demandStop (s : State) (p : PumpId) : State :=
  let s := passLeadAtStop (offBasic s p) p
  if thermalAsserted s p then enterFault s p .thermal else s

/-- A pump in PENDING drops its request and goes to OFF (R122, R128). -/
def dropToOff (s : State) (p : PumpId) : State := enterOff (dropRequest s (pumpRequester p)) p

/-- The reason of the request that a served entry carries. -/
def servedReason (e : Entry) : Option Reason :=
  match e.request with
  | some q => some q.reason
  | none => none

/-- A pump in CLAIMING or SURGING whose entry is served: called, it posts DEMAND, which the entry holds, unless DEMAND
is what it is served for; not called, it drops a DEMAND request (R95, R122). -/
def actClaiming (s : State) (p : PumpId) : State :=
  let e := entryOf s (pumpRequester p)
  if !e.served then s
  else if called s p then
    (if servedReason e == some .demand then s else post s (pumpRequester p) .demand)
  else dropRequest s (pumpRequester p)

/-- A RUNNING pump stops if it is not called, but for one that a warm restart has left RUNNING: it runs on until the
latches have been judged afresh (R122, R138, log 20). -/
def stopUncalled (s : State) (p : PumpId) : State := if s.pumps.leftRunning.get p then s else demandStop s p

/-- The Pump Controller acts on one pump's call (R122). A pump that surges by float override posts and drops nothing:
its start is not the Start Arbiter's, also while the CLAIM of its cancelled entry is on the line (R131; DESIGN CHOICE,
log 21). -/
def actPump (s : State) (p : PumpId) : State :=
  let q := pumpOf s p
  match q.state with
  | .off => if called s p then pumpPosts s p .demand .demand else s
  | .pending =>
      if called s p then
        (if q.reason == some .demand then s else pumpPosts s p .demand .demand)
      else if q.reason == some .exercise then s
      else if q.reason == some .handover && handoverStands s p then s
      else dropToOff s p
  | .claiming => actClaiming s p
  | .surging => if q.reason == some .float then s else actClaiming s p
  | .running =>
      if q.reason == some .float then
        (if s.inputs.float.level then s
         else if called s p then takeDemand s p
         else stopUncalled s p)
      else if q.reason == some .exercise then (if called s p then takeDemand s p else s)
      else if called s p then s
      else stopUncalled s p
  | .resting | .fault | .inhibited => s

/-- The Pump Controller acts on the calls, lead first (R121, R122). -/
def actCalls (s : State) : State :=
  let lead := s.pumps.lead
  actPump (actPump s lead) lead.other

/-! ### Handover (R128) -/

/-- A handover completes: the relieved pump goes to RESTING, or to OFF with B = 0, and the designation passes to the
relieving pump (R124, R128, R129). -/
def completeHandover (s : State) (relieving : PumpId) : State :=
  let p := relieving.other
  let s :=
    if restLimitMs s.cfg p = 0 then enterOff s p
    else onPump (setPumpState s p .resting) p fun q =>
      { q with reason := none, relief := false, runPhase := .rest, run := .fromZero, runSense := .cleared }
  s.onPumps fun c => { c with lead := relieving }

/-- A pump with relief due asks its partner for relief (R128). The exercise timer of a partner that completes the
handover out of its EXERCISE run is cleared, as R130 has it where the reason becomes DEMAND (DESIGN CHOICE, log 48).
-/
def askRelief (s : State) (p : PumpId) : State :=
  let o := p.other
  let q := pumpOf s o
  if !(handoverStands s o && fitted s.cfg o) then s
  else match q.state with
    | .off => pumpPosts s o .handover .handover
    | .pending => if q.reason == some .exercise then pumpPosts s o .handover .handover else s
    | .running =>
        if q.reason == some .exercise && wantedCount s == 1 then
          completeHandover (onPump s o fun x => { x with reason := some .handover, exercise := .cleared }) o
        else s
    | .claiming | .surging | .resting | .fault | .inhibited => s

/-! ### Exercise (R130) -/

/-- Post an EXERCISE request for a pump that is due and OFF in DRY; an entry that is not armed does not take it (R94,
R130). -/
def postExercise (s : State) (p : PumpId) : State :=
  if inRun s && fitted s.cfg p && (pumpOf s p).state == .off && exerciseIsDue s p &&
      s.stage.stage == .dry && (entryOf s (pumpRequester p)).armed then
    pumpPosts s p .exercise .exercise
  else s

/-- After a change that bears on the pumps: the calls are acted on, relief is asked for and exercise is posted
(R121, R122, R128, R130). The calls are acted on twice, because the first time may pass the lead designation. In
START nothing moves (R138). -/
def settlePumps (s : State) : State :=
  if s.mode == .start then s
  else
    let s := actCalls (actCalls s)
    let s := askRelief (askRelief s .p1) .p2
    postExercise (postExercise s .p1) .p2

/-! ### Surges and running (R123, R125, R131) -/

/-- "surge start": the pump surges with the reason of its served request (R123). -/
def pumpSurgeStart (s : State) (p : PumpId) : State :=
  if (pumpOf s p).state == .claiming then
    let reason := match servedReason (entryOf s (pumpRequester p)) with
      | some .handover => PumpReason.handover
      | some .exercise => PumpReason.exercise
      | _ => PumpReason.demand
    rearm (onPump (setPumpState s p .surging) p fun q =>
      { q with reason := some reason, exercise := .cleared }) (pumpRequester p)
  else s

/-- A pump enters RUNNING: its run/rest timer starts in phase RUN, the running order is updated and an exercise run
starts its time (R123, R130). -/
def runningBasic (s : State) (p : PumpId) : State :=
  let s := onPump (setPumpState s p .running) p fun q =>
    { q with
      runPhase := .run
      run := .fromZero
      runSense := .cleared
      floatSurge := .cleared
      exercise := if q.reason == some .exercise then .fromZero else q.exercise }
  s.onPumps fun c => { c with later := some p }

/-- The handover at the relieving pump's entry to RUNNING: it completes with a wanted count of 1; with 2 the pump runs
on with reason DEMAND (R128). -/
def handoverAtRunning (s : State) (p : PumpId) : State :=
  let o := pumpOf s p.other
  if (pumpOf s p).reason == some .handover && o.state == .running && o.relief then
    (if wantedCount s == 1 then completeHandover s p
     else if wantedCount s == 2 then takeDemand s p
     else s)
  else s

/-- The end of a pump's surge: with run-sense to RUNNING, without it to FAULT with cause NO_RUN (R125). -/
def endPumpSurge (s : State) (p : PumpId) : State :=
  if (s.inputs.runSense.get p).level then settlePumps (handoverAtRunning (runningBasic s p) p)
  else settlePumps (enterFault s p .noRun)

/-- "surge end" (R123). A float start's surge is not the Start Arbiter's. -/
def pumpSurgeEnd (s : State) (p : PumpId) : State :=
  let q := pumpOf s p
  if q.state == .surging && q.reason != some .float then endPumpSurge s p else s

/-- "claiming" (R123). -/
def pumpClaiming (s : State) (p : PumpId) : State :=
  if (pumpOf s p).state == .pending then setPumpState s p .claiming else s

/-- The reason a pump takes from the request it returns to PENDING with (R123). -/
def pumpReasonOf : Option Reason → PumpReason
  | some .handover => .handover
  | some .exercise => .exercise
  | _ => .demand

/-- A request of a pump still stands (R123). -/
def requestStands (s : State) (p : PumpId) : Option Reason → Bool
  | some .demand => called s p
  | some .handover => handoverStands s p
  | some .exercise => true
  | _ => false

/-- "back to pending": to PENDING if the request the entry carries still stands, to OFF otherwise (R123). A pump
back in PENDING for exercise is free for its partner's relief again (R128). -/
def pumpBackToPending (s : State) (p : PumpId) : State :=
  if (pumpOf s p).state == .claiming then
    let r := servedReason (entryOf s (pumpRequester p))
    if requestStands s p r then
      askRelief (onPump (setPumpState s p .pending) p fun q => { q with reason := some (pumpReasonOf r) }) p.other
    else settlePumps (enterOff (cancelEntry s (pumpRequester p)) p)
  else s

/-- A pump stands in PENDING with no request in the start table: the one it had posted was held by its cancelled entry
and has gone with the served mark (R95, R106). -/
def requestLost (s : State) (p : PumpId) : Bool :=
  (pumpOf s p).state == .pending && !(entryOf s (pumpRequester p)).pending && !(entryOf s (pumpRequester p)).served

/-- "abandoned": the contactor opens and the pump goes to OFF (R123). A pump whose held request has gone with the
claim goes to OFF too, from where it posts anew what it still needs (R106; DESIGN CHOICE, log 33). A pump that its
own chapter has moved elsewhere ignores the signal (R118, log 33). -/
def pumpAbandoned (s : State) (p : PumpId) : State :=
  let q := pumpOf s p
  if q.state == .claiming || (q.state == .surging && q.reason != some .float) || requestLost s p then
    settlePumps (enterOff s p)
  else s

/-- A pump's served request is still wanted: its condition holds, or the request it holds does (R95, R107). -/
def pumpWantsStart (s : State) (p : PumpId) : Bool :=
  let e := entryOf s (pumpRequester p)
  requestStands s p (servedReason e) ||
    (match e.held with
      | some q => requestStands s p (some q.reason)
      | none => false)

/-! ### Float override (R131) -/

/-- A pump that a float start may take (R131). -/
def floatStartable (s : State) (p : PumpId) : Bool :=
  fitted s.cfg p && (match (pumpOf s p).state with
    | .off | .pending | .claiming | .resting => true
    | .surging | .running | .fault | .inhibited => false)

/-- A measurement in its CHARGE phase is blanked when the surge signal becomes active (R7). -/
def blankCharge (p : Probe) : Probe := if p.phase == .charge then { p with blank := true } else p

/-- The surge signal becomes active: measurements in CHARGE are blanked (R7). -/
def blankMeasurements (s : State) : State :=
  s.onProbes fun u => { u with a := blankCharge u.a, b := blankCharge u.b }

/-- A pump in CLAIMING whose served entry a float start cancels is told "abandoned": it passes through OFF (R106,
R118, R123). It is not judged under R126 on that way, because R131 takes it to SURGING (DESIGN CHOICE, log 44). -/
def floatAbandons (s : State) (p : PumpId) : State :=
  if (pumpOf s p).state == .claiming then offBasic s p else s

/-- Start a pump by float override (R131). -/
def floatStart (s : State) (p : PumpId) : State :=
  let s := floatAbandons (cancelEntry s (pumpRequester p)) p
  blankMeasurements (onPump (setPumpState s p .surging) p fun q =>
    { q with
      reason := some .float
      cause := none
      floatSurge := .fromZero
      runPhase := .run
      run := .cleared
      relief := false
      runSense := .cleared
      thermal := .cleared
      exercise := .cleared })

/-- The first pump that a float start takes, lead first (R131). -/
def floatChoice (s : State) : Option PumpId :=
  [s.pumps.lead, s.pumps.lead.other].find? (floatStartable s)

/-! ### Reactions to the stage and the supply -/

/-- Entry to FLOOD waives the rest and clears relief due (R129). -/
def pumpsEnterFlood (s : State) : State :=
  let s := onPump (onPump s .p1 fun q => { q with relief := false }) .p2 fun q => { q with relief := false }
  waiveRest (waiveRest s .p1) .p2

/-- A change of the stage reaches the Pump Controller (R119, R120, R128-R130). -/
def pumpsStageChange (s : State) (old : Stage) : State :=
  if !inRun s then s
  else
    let s := judgeLatches s
    let s := if isFlood s then pumpsEnterFlood s else s
    let s := if old == .flood then judgeRunLimit (judgeRunLimit s .p1) .p2 else s
    settlePumps s

/-- The supply mode becomes NONE: a pump goes to OFF with its request cancelled, its mask and its timers cleared
(R134, log 13). -/
def pumpSupplyLost (s : State) (p : PumpId) : State :=
  let s := clearMask (cancelEntry s (pumpRequester p)) (pumpRequester p)
  offBasic (onPump s p fun q => { q with exercise := .cleared }) p

/-- The supply mode becomes NONE in RUN (R134). -/
def pumpsSupplyLost (s : State) : State := settlePumps (pumpSupplyLost (pumpSupplyLost s .p1) .p2)

/-- In START no contactor moves but at a loss of supply: the contactors of the pumps left RUNNING stay closed through
the restart (R138, R175, R181). -/
def contactorStays (s : State) (p : PumpId) : Bool := s.mode == .start && contactorClosed s p

/-- A pump is judged under R126 where it stands; one that START leaves running is judged at the entry to RUN or
FALLBACK (R138, R175; DESIGN CHOICE, log 29). -/
def judgeThermal (s : State) (p : PumpId) : State :=
  if fitted s.cfg p && thermalWatched (pumpOf s p).state && thermalAsserted s p && !contactorStays s p then
    enterFault s p .thermal
  else s

/-- The supply mode leaves NONE: each pump is judged under R126 (R134), P1 before P2 (DESIGN CHOICE, log 41). -/
def pumpsSupplyBack (s : State) : State := settlePumps (judgeThermal (judgeThermal s .p1) .p2)

/-- "lag shed": the pump that entered RUNNING later stops, unless its reason is FLOAT (R87, R133). -/
def lagShed (s : State) : State :=
  if lagRunning s then
    match s.pumps.later with
    | some p => if (pumpOf s p).reason == some .float then s else settlePumps (enterOff s p)
    | none => s
  else s

end Sys2Proof.Machine
end

