-- ==== Sys2Proof/Machine/Arbiter.lean ====
section
/-! DEFINITION. The Start Arbiter (Chapter 6): the signals to the requesters, selection and substitution, the own
claim, the claim list, and the attempts that follow a change (log 8). -/

namespace Sys2Proof.Machine

/-! ### The signals of Figure 6-4 -/

/-- "claiming" (R100, R105). -/
def tellClaiming (s : State) : Requester → State
  | .p1 => pumpClaiming s .p1
  | .p2 => pumpClaiming s .p2
  | .gate => s
  | .lamps => s

/-- "back to pending" (R101, R103, R104, R105). -/
def tellBack (s : State) : Requester → State
  | .p1 => pumpBackToPending s .p1
  | .p2 => pumpBackToPending s .p2
  | .gate => s
  | .lamps => s

/-- "surge start" (R107). -/
def tellSurgeStart (s : State) : Requester → State
  | .p1 => pumpSurgeStart s .p1
  | .p2 => pumpSurgeStart s .p2
  | .gate => gateSurgeStart s
  | .lamps => lampsSurgeStart s

/-- "surge end" (R110); the gate motor runs on outside its surge. -/
def tellSurgeEnd (s : State) : Requester → State
  | .p1 => pumpSurgeEnd s .p1
  | .p2 => pumpSurgeEnd s .p2
  | .gate => s
  | .lamps => lampsSurgeEnd s

/-- "abandoned" (R106, R107, R110); it changes no gate state (R152). -/
def tellAbandoned (s : State) : Requester → State
  | .p1 => pumpAbandoned s .p1
  | .p2 => pumpAbandoned s .p2
  | .gate => s
  | .lamps => lampsAbandoned s

/-! ### Selection (R98-R100) -/

/-- A selection may be made (R98). -/
def selectionAllowed (s : State) : Bool :=
  inRun s && s.arb.listenIn == .elapsed && s.arb.claim == .idle && s.arb.claims.isEmpty && !doneInFlight s

/-- The entry takes the served mark (R100, log 7). -/
def serveEntry (e : Entry) : Entry := { e with pending := false, budgetHeld := false, served := true }

/-- The entry fails a start test (R96, R99, R105). -/
def holdForBudget (e : Entry) : Entry := { e with budgetHeld := true }

/-- A candidate that passed its start test is served: CLAIM_QUEUED, a CLAIM in its slot, "claiming" (R100). -/
def serve (s : State) (r : Requester) : State :=
  let s := onEntry s r serveEntry
  let s := s.onArb fun a => { a with claim := .claimQueued, busyHeard := false, cancelHeld := false }
  tellClaiming (queueFrame s .claim) r

/-- Requesters in order of level, and within one level in the tie order (R99). -/
def byLevel (s : State) (rs : List Requester) : List Requester :=
  (List.range 8).flatMap fun lv => rs.filter fun r => entryLevel (entryOf s r) == lv

/-- The candidates of a selection, most urgent first (R99). -/
def candidates (s : State) : List Requester := byLevel s (tieOrder.filter (eligible s))

/-- The start tests of a selection, one candidate after the other, up to the first that passes (R99). -/
def tryCandidates : List Requester → State → State
  | [], s => s
  | r :: rest, s =>
      if startTestPasses s r then serve (storeHeadroom s) r
      else tryCandidates rest (onEntry (storeHeadroom s) r holdForBudget)

/-- A selection is attempted (R98, R99). -/
def select (s : State) : State := if selectionAllowed s then tryCandidates (candidates s) s else s

/-! ### Substitution (R105) -/

/-- The claim states in which a substitution may be made (R105). -/
def substitutable (a : Arbiter) : Bool := a.claim == .claimQueued || a.claim == .claimWait

/-- An entry is given the start test against the served entry (R105). -/
def outranks (s : State) (r o : Requester) : Bool :=
  eligible s r && decide (entryLevel (entryOf s r) < entryLevel (entryOf s o))

/-- The entry that loses the served mark to a substitute: it returns to pending if its request still stands, that is
unless it was cancelled and holds no other request (R105). -/
def unserve (cancelled : Bool) (e : Entry) : Entry :=
  if cancelled && e.held.isNone then endEntry e else returnEntry e

/-- The served mark moves to another entry, and both requesters are told (R105). The cancel-held flag, which says
that the served entry has been cancelled, goes with the mark that moves (DEDUCED, log 18). -/
def moveMark (s : State) (old new : Requester) : State :=
  let s := onEntry (onEntry s old (unserve s.arb.cancelHeld)) new serveEntry
  let s := s.onArb fun a => { a with cancelHeld := false }
  tellClaiming (tellBack s old) new

/-- An entry that has become pending or unmasked is tried against the served one (R105). -/
def substitute (s : State) (r : Requester) : State :=
  match servedOf s with
  | none => s
  | some o =>
      if substitutable s.arb && outranks s r o then
        (if startTestPasses s r then moveMark (storeHeadroom s) o r
         else onEntry (storeHeadroom s) r holdForBudget)
      else s

/-! ### The attempts that follow a change (R98, R105, log 8) -/

/-- An entry has become pending or unmasked; one that was cancelled and posted again has become pending too. -/
def freshly (before after : State) (r : Requester) : Bool :=
  eligible after r && (!eligible before r || (entryOf before r).posts != (entryOf after r).posts)

/-- The entries that have become pending or unmasked, most urgent first. -/
def freshEntries (before after : State) : List Requester :=
  byLevel after (tieOrder.filter (freshly before after))

/-- An event of R98 has happened between two states. -/
def selectionEvent (before after : State) : Bool :=
  (before.arb.listenIn != .elapsed && after.arb.listenIn == .elapsed) ||
  (before.arb.claim != .idle && after.arb.claim == .idle) ||
  (!before.arb.claims.isEmpty && after.arb.claims.isEmpty) ||
  (doneInFlight before && !doneInFlight after) ||
  tieOrder.any (freshly before after)

/-- The entries are tried against the served one, in turn. -/
def substituteAll : List Requester → State → State
  | [], s => s
  | r :: rest, s => substituteAll rest (substitute s r)

/-- The substitutions and the selection that a change calls for. -/
def attempt (before after : State) : State :=
  let s := substituteAll (freshEntries before after) after
  if selectionEvent before after then select s else s

/-- The attempts after a command's own effect, and those that they call for in turn (log 8). -/
def finish (before after : State) : State :=
  let s := attempt before after
  attempt after s

/-! ### The own claim (R101-R107, R110) -/

/-- A queued CLAIM is withdrawn before any peer heard it; not held, the claim goes on to its report (R101). A claim
whose entry was cancelled ends here (DESIGN CHOICE, log 18). -/
def withdrawOwnClaim (s : State) : State :=
  match servedOf s with
  | none => s
  | some r =>
      if slotHeld s .claim then
        (if s.arb.cancelHeld then tellAbandoned (claimIdle (onEntry (withdraw s .claim) r endEntry)) r
         else tellBack (claimIdle (onEntry (withdraw s .claim) r returnEntry)) r)
      else s

/-- The station yields: DONE(ABANDONED), the served entry back to pending, IDLE (R103, R104). -/
def yieldClaim (s : State) : State :=
  match servedOf s with
  | none => s
  | some r =>
      let s := queueDone (withdraw s .claim) r .abandoned
      tellBack (claimIdle (onEntry s r returnEntry)) r

/-- The claim or surge ends with DONE(ABANDONED), and the requester is told "abandoned" (R102, R107, R110). -/
def abandonClaim (s : State) : State :=
  match servedOf s with
  | none => s
  | some r =>
      let s := queueDone (withdraw (withdraw s .claim) .busy) r .abandoned
      tellAbandoned (claimIdle (onEntry s r endEntry)) r

/-- A record is superior to the own claim (R103). -/
def superior (s : State) (c : ClaimRecord) : Bool :=
  match servedOf s with
  | none => false
  | some r =>
      let lv := entryLevel (entryOf s r)
      decide (c.urgency < lv) || (decide (c.urgency = lv) && decide (c.station < s.cfg.station))

/-- The claim window opens: CLAIM_WAIT (R102). -/
def openWindow (s : State) : State := s.onArb fun a => { a with claim := .claimWait, window := .fromZero }

/-- The report of the own CLAIM, "sent" or "dropped" (R102). -/
def claimReported (s : State) : State :=
  if s.arb.claim == .claimQueued then
    let s := openWindow s
    if s.arb.cancelHeld then abandonClaim s
    else if noSupply s then yieldClaim s
    else if s.arb.busyHeard || s.arb.claims.any (superior s) then yieldClaim s
    else s
  else s

/-- The served requester still wants its start (R107). -/
def wantsStart (s : State) : Requester → Bool
  | .p1 => pumpWantsStart s .p1
  | .p2 => pumpWantsStart s .p2
  | .gate => gateWantsStart s
  | .lamps => relightNeeded s

/-- The surge begins: the surge timer runs, measurements in CHARGE are blanked (R7, R107, R108). -/
def beginSurge (s : State) (r : Requester) : State :=
  let s := (withdraw s .claim).onArb fun a => { a with claim := .surge, window := .cleared, surge := .fromZero }
  tellSurgeStart (blankMeasurements s) r

/-- The claim window expires (R107). -/
def windowExpired (s : State) : State :=
  match servedOf s with
  | none => s
  | some r => if wantsStart s r then beginSurge s r else abandonClaim s

/-- The surge timer expires (R110); a reasserted CLAIM that has come back to its slot is withdrawn with it (R103). The
requester acts on "surge end" once its mark has cleared (DESIGN CHOICE, log 33). -/
def surgeExpired (s : State) : State :=
  match servedOf s with
  | none => s
  | some r =>
      let s := queueDone (withdraw (withdraw s .claim) .busy) r .started
      tellSurgeEnd (claimIdle (onEntry s r endEntry)) r

/-- The supply mode becomes NONE (R101, R104, R110). -/
def arbiterSupplyLost (s : State) : State :=
  match s.arb.claim with
  | .idle => s
  | .claimQueued => withdrawOwnClaim s
  | .claimWait => yieldClaim s
  | .surge => abandonClaim s

/-- The surge time of a requester in ms (R108). -/
def surgeTime (c : StationConfig) : Requester → Nat
  | .p1 => c.pump.p1.tsurge
  | .p2 => c.pump.p2.tsurge
  | .gate => c.tgsurge
  | .lamps => c.tlsurge

/-- The surge time remaining, in whole ms, rounded down: what is left of the present ms counts, 36864 tenths of an
Fref period to a ms (R109). -/
def remainingSurge (s : State) (r : Requester) : Nat :=
  ((surgeTime s.cfg r - s.arb.surge.count) * 36864 - s.div.msTenths) / 36864

/-- A new stage floor reaches the start table: masked entries lose their budget-held mark (R68, R96). -/
def maskByFloor (s : State) : State :=
  let fl := stageFloor s.stage.stage
  s.onArb fun a => { a with
    table := { gate := settleMask fl a.table.gate, p1 := settleMask fl a.table.p1,
               p2 := settleMask fl a.table.p2, lamps := settleMask fl a.table.lamps } }

/-! ### The claim list (R112-R114) -/

/-- A record stands before another: by urgency, then by station number. -/
def recordBefore (x y : ClaimRecord) : Bool :=
  decide (x.urgency < y.urgency) || (decide (x.urgency = y.urgency) && decide (x.station < y.station))

/-- Put a record in its place in the order. -/
def insertRecord (c : ClaimRecord) : List ClaimRecord → List ClaimRecord
  | [] => [c]
  | x :: rest => if recordBefore c x then c :: x :: rest else x :: insertRecord c rest

/-- The list without a station's record. -/
def dropRecord (l : List ClaimRecord) (k : Nat) : List ClaimRecord := l.filter fun c => c.station != k

/-- Put a record in the claim list, in place of the station's own earlier one (R112). -/
def recordClaim (s : State) (c : ClaimRecord) : State :=
  s.onArb fun a => { a with claims := insertRecord c (dropRecord a.claims c.station) }

/-- The record a BUSY makes or refreshes: urgency 0, holder timer from zero, the Sd of an earlier record kept
(R113). -/
def busyRecordOf (l : List ClaimRecord) (sender : Nat) (payload : List Byte) : ClaimRecord :=
  { station := sender, requester := payloadRequester payload, reason := payloadReason payload, urgency := 0,
    sd := (match l.find? (fun c => c.station == sender) with
      | some c => c.sd
      | none => 0),
    holder := 0 }

/-- Remove a station's record (R114). -/
def removeClaim (s : State) (k : Nat) : State := s.onArb fun a => { a with claims := dropRecord a.claims k }

/-- A CLAIM of a roster peer (R101, R103, R109, R112). It is compared by its record, in which an urgency above 7
stands as 7, and not by the number in its payload (DESIGN CHOICE, log 40). -/
def claimHeard (s : State) (sender : Nat) (payload : List Byte) : State :=
  let c := claimRecordOf sender payload
  let s := recordClaim s c
  match s.arb.claim with
  | .idle => s
  | .claimQueued => withdrawOwnClaim s
  | .claimWait => if superior s c then yieldClaim s else queueFrame s .claim
  | .surge => queueFrame s .busy

/-- A BUSY of a roster peer (R101, R104, R109, R113). -/
def busyHeardFrom (s : State) (sender : Nat) (payload : List Byte) : State :=
  let s := recordClaim s (busyRecordOf s.arb.claims sender payload)
  match s.arb.claim with
  | .idle => s
  | .claimQueued => withdrawOwnClaim (s.onArb fun a => { a with busyHeard := true })
  | .claimWait => yieldClaim s
  | .surge => s

end Sys2Proof.Machine
end

