-- ==== Sys2Proof/Machine/StageOps.lean ====
section
/-! DEFINITION. The Stage Monitor (Chapter 4): the roadway reports, the candidate stage, the evaluation and its
hand-offs. -/

namespace Sys2Proof.Machine

/-! ### The inputs (R59-R61) -/

/-- The depths that the reports of the set hold (R59). -/
def knownDepths (s : State) : List Nat :=
  s.probes.b.depth.toList ++ (usablePeers s).filterMap PeerContents.depth

/-- The greatest of a list of depths, absent for none. -/
def greatestDepth : List Nat → Option Nat
  | [] => none
  | d :: rest => match greatestDepth rest with
    | none => some d
    | some m => some (max d m)

/-- U, the greatest known roadway depth (R59). -/
def deepest (s : State) : Option Nat := greatestDepth (knownDepths s)

/-- The valid rise rates of the set (R60). -/
def validRises (s : State) : List Int :=
  (if s.probes.riseValid then [s.probes.rise] else []) ++ (usablePeers s).map PeerContents.rise

/-- The rise condition: Rmax is present and at or above R_alert (R60). -/
def riseCondition (s : State) : Bool := (validRises s).any fun r => decide ((s.cfg.rAlert : Int) ≤ r)

/-! ### The candidate stage (R62) -/

/-- The candidate stage (R62, Figure 4-2). -/
def candidateStage (s : State) : Stage :=
  match deepest s with
  | some u =>
      if s.cfg.tFlood ≤ u then .flood
      else if s.cfg.tAlert ≤ u || riseCondition s then .alert
      else if s.cfg.tWet ≤ u then .wet
      else .dry
  | none => if riseCondition s then .alert else .wet

/-- The order of the stages. -/
def Stage.below (x y : Stage) : Bool := decide (stageCode x < stageCode y)

/-- One stage down (R65). -/
def Stage.lower : Stage → Stage
  | .flood => .alert
  | .alert => .wet
  | .wet => .dry
  | .dry => .dry

/-- The entry threshold of a stage above DRY. -/
def entryThreshold (c : StationConfig) : Stage → Nat
  | .flood => c.tFlood
  | .alert => c.tAlert
  | .wet => c.tWet
  | .dry => 0

/-- U lies below the entry threshold of the stage minus Hy (R65, condition 3). -/
def belowHysteresis (c : StationConfig) (st : Stage) (u : Nat) : Bool :=
  if entryThreshold c st ≤ c.hy then u == 0 else decide (u < entryThreshold c st - c.hy)

/-- Conditions 3 and 4 of a descent (R65). -/
def descentAllowed (s : State) : Bool :=
  (match deepest s with
    | some u => belowHysteresis s.cfg s.stage.stage u
    | none => false) &&
  !(s.stage.stage == .alert && riseCondition s)

/-! ### The evaluation (R63-R66) -/

/-- A stage taken with the hold timer restarted (R63, R64). -/
def takeStage (cand st : Stage) (m : StageMonitor) : StageMonitor :=
  { m with stage := st, hold := if cand.below st then .running else .cleared, holdCount := 0 }

/-- What an evaluation makes of the Stage Monitor; `expiry` says that the hold timer reaches Tsh (R63-R66). -/
def evaluated (s : State) (expiry : Bool) : StageMonitor :=
  let cand := candidateStage s
  let m := { s.stage with blind := (deepest s).isNone }
  if m.stage.below cand then takeStage cand cand m
  else if cand.below m.stage then
    (if (expiry || m.hold == .served) && descentAllowed s then takeStage cand m.stage.lower m
     else if expiry then { m with hold := .served, holdCount := tshMs s.cfg }
     else if m.hold == .cleared then { m with hold := .running, holdCount := 0 }
     else m)
  else { m with hold := .cleared, holdCount := 0 }

/-- A change of the stage is handed on (R67, log 9). -/
def handStage (s : State) (old : Stage) : State :=
  let s := maskByFloor (promptStatus s)
  let s := gateStageChange s old
  pumpsStageChange (judgeWarning s) old

/-- An evaluation of the stage, in RUN alone, with its hand-offs (R66, R67). -/
def evaluateStage (s : State) (expiry : Bool) : State :=
  if inRun s then
    let old := s.stage.stage
    let s := s.onStage fun _ => evaluated s expiry
    if s.stage.stage == old then s else handStage s old
  else s

end Sys2Proof.Machine
end

