-- ==== Sys2Proof/Machine/PeerOps.lean ====
section
/-! DEFINITION. The Peer Table (Chapter 3): ISOLATED, the aging, STATUS arrivals and the own-number check. -/

namespace Sys2Proof.Machine

/-- Judge ISOLATED; a change queues a STATUS (R42, R53). -/
def judgeIsolated (s : State) : State :=
  if allLost s == s.peers.isolated then s
  else promptStatus (s.onPeers fun t => { t with isolated := allLost s })

/-- One more status period without a STATUS (R49). -/
def olderAge : Option Nat → Option Nat
  | none => none
  | some n => some (if n < 255 then n + 1 else n)

/-- Every entry one period older (R49). -/
def olderEntries (l : List PeerEntry) : List PeerEntry := l.map fun e => { e with age := olderAge e.age }

/-- Some entry's freshness differs between two tables of the same stations (R48). -/
def freshnessChanged (before after : List PeerEntry) : Bool :=
  before.map (fun e => freshnessOf e.age) != after.map (fun e => freshnessOf e.age)

/-- Age the peer table, with the stage evaluated where a freshness changes, and judge ISOLATED (R48, R49, R53). -/
def agePeers (s : State) : State :=
  let older := olderEntries s.peers.entries
  let changed := freshnessChanged s.peers.entries older
  let s := s.onPeers fun t => { t with entries := older }
  judgeIsolated (if changed then evaluateStage s false else s)

/-- The STATUS frames found missing before an arrival (R51). -/
def missedFrames (e : PeerEntry) (seq : Nat) : Nat :=
  match freshnessOf e.age, e.contents with
  | .lost, _ => 0
  | _, none => 0
  | _, some c => (seq + 256 - c.lastSeq) % 256 - 1

/-- The entry after a STATUS (R50). -/
def refreshEntry (payload : List Byte) (e : PeerEntry) : PeerEntry :=
  { e with age := some 0, contents := some (statusContents payload) }

/-- The entry of a station. -/
def peerEntry (s : State) (k : Nat) : Option PeerEntry := s.peers.entries.find? fun e => e.station == k

/-- A STATUS of a roster peer (R50-R53). -/
def statusHeard (s : State) (sender : Nat) (payload : List Byte) : State :=
  let missed := match peerEntry s sender with
    | some e => missedFrames e (payloadByte payload 14).toNat
    | none => 0
  let s := s.onPeers fun t =>
    { t with
      seqGap := countUp t.seqGap missed
      entries := t.entries.map fun e => if e.station == sender then refreshEntry payload e else e }
  judgeIsolated (evaluateStage s false)

/-- A frame that bears the station's own number (R54, R55). -/
def ownNumberHeard (s : State) : State :=
  if s.peers.duplicate then s else promptStatus (s.onPeers fun t => { t with duplicate := true })

/-- The entries of a new peer table, by station number (R46). -/
def newEntries (c : StationConfig) : List PeerEntry :=
  ((rosterList c).filter fun k => k != c.station).map fun k => { station := k, age := none, contents := none }

/-- A STATUS is reported "sent" (R44). -/
def advanceSeq (s : State) : State := s.onPeers fun t => { t with seq := (t.seq + 1) % 256 }

end Sys2Proof.Machine
end

