-- ==== Sys2Proof/Machine/Probe.lean ====
section
/-! DEFINITION. The Probe Unit (Chapter 1): the measurement cycle, readings, averaging and faults, the roadway history
and the rise rate, and the five commands of the block. -/

namespace Sys2Proof.Machine

/-- Change one probe's record. -/
def onProbe (s : State) (p : ProbeId) (f : Probe → Probe) : State :=
  s.onProbes fun u => match p with
    | .a => { u with a := f u.a }
    | .b => { u with b := f u.b }

/-- The probe that stands in a phase. -/
def probeIn (s : State) (ph : ProbePhase) : Option ProbeId :=
  if s.probes.a.phase == ph then some .a else if s.probes.b.phase == ph then some .b else none

/-! ### Conversion and averaging (R9-R12) -/

/-- The depth of an OK reading (R9). -/
def convertDepth (c : ProbeCfg) (t : Nat) : Nat :=
  if t ≤ c.d0 then 0 else if c.d1 ≤ t then c.len else (t - c.d0) * c.len / (c.d1 - c.d0)

/-- A window with a depth appended, four at most (R10). -/
def appendDepth (w : List Nat) (d : Nat) : List Nat := (w ++ [d]).drop (w.length + 1 - 4)

/-- The floor of the mean of a window, absent for an empty one (R10). -/
def meanDepth (w : List Nat) : Option Nat := if w.isEmpty then none else some (w.sum / w.length)

/-- An OK or OVER reading (R10, R12). -/
def takeDepth (d : Nat) (p : Probe) : Probe :=
  let w := appendDepth p.window d
  if p.faulted then
    (if p.runCount + 1 < 3 then { p with window := w, runCount := p.runCount + 1 }
     else { p with window := w, runCount := 0, faulted := false, depth := meanDepth w })
  else { p with window := w, runCount := 0, depth := meanDepth w }

/-- An OPEN reading (R11, R12). -/
def takeOpen (p : Probe) : Probe :=
  if p.faulted then { p with window := [], runCount := 0 }
  else if p.runCount + 1 < 3 then { p with runCount := p.runCount + 1 }
  else { p with window := [], runCount := 0, faulted := true, depth := none }

/-- The count at which the charge counter starts (R4). -/
def startCount (c : ProbeCfg) : Nat := 4095 - c.rld

/-- The reading of a trip with a tick value (R5, R6). -/
def tripReading (c : ProbeCfg) (t : Nat) (p : Probe) : Probe :=
  let p := { p with raw := t }
  if t < c.tOpenMin then takeOpen { p with status := .openCircuit }
  else takeDepth (convertDepth c t) { p with status := .ok }

/-- The reading of an overflow (R5, R6). -/
def overflowReading (c : ProbeCfg) (p : Probe) : Probe := takeDepth c.len { p with status := .over }

/-! ### The cycle (R2, R3) -/

/-- A probe enters DISCHARGE. -/
def dischargeProbe (s : State) (p : ProbeId) : State :=
  onProbe s p fun q => { q with phase := .discharge, ticks := 0, blank := false }

/-- The cycle passes to probe B, or ends (R2). -/
def cycleToB (s : State) : State := if s.cfg.probeB.enable then dischargeProbe s .b else s

/-- A measurement cycle begins (R2). -/
def beginCycle (s : State) : State :=
  if s.cfg.probeA.enable then dischargeProbe s .a else cycleToB s

/-- A cycle is in progress. -/
def cycleRunning (s : State) : Bool := s.probes.a.phase != .idle || s.probes.b.phase != .idle

/-- A depth has changed: the sump depth is the Pump Controller's, the roadway depth the Stage Monitor's, and the Pump
Controller's too while the sump depth is UNKNOWN (R13, R120). -/
def handDepth (s : State) : ProbeId → State
  | .a => settlePumps (judgeLatches s)
  | .b =>
      let s := evaluateStage s false
      if s.probes.a.depth.isNone then settlePumps (judgeLatches s) else s

/-- A measurement completes with a reading, or blanked (R5-R8); `count` is where the charge counter stands. -/
def completeMeasurement (s : State) (p : ProbeId) (count : Nat) (reading : Probe → Probe) : State :=
  let q := s.probes.get p
  let done := { q with phase := .idle, charge := count, blank := false }
  let s1 :=
    if q.blank then
      (onProbe s p fun _ => { done with status := .blanked }).onProbes fun u =>
        { u with blanked := countUp u.blanked 1 }
    else onProbe s p fun _ => reading done
  let s2 := match p with
    | .a => cycleToB s1
    | .b => s1
  if (s2.probes.get p).depth == q.depth then s2 else handDepth s2 p

/-! ### The roadway history (R15, R16) -/

/-- The ring with an entry appended, sixteen at most (R15). -/
def appendHistory (ring : List (Option Nat)) (d : Option Nat) : List (Option Nat) :=
  (ring ++ [d]).drop (ring.length + 1 - 16)

/-- The entries of the ring that hold depths, each with its position. -/
def ringDepths (ring : List (Option Nat)) : List (Nat × Nat) :=
  ring.zipIdx.filterMap fun x => x.1.map fun d => (x.2, d)

/-- The rise rate of a ring and its validity (R16). -/
def riseOf (th : Nat) (ring : List (Option Nat)) : Int × Bool :=
  match ringDepths ring with
  | [] => (0, false)
  | first :: rest => match rest.getLast? with
    | none => (0, false)
    | some last =>
        (clampInt (-32768) 32767
          ((((last.2 : Int) - first.2) * 60).tdiv (((last.1 - first.1) * th : Nat) : Int)), true)

/-- Append the roadway depth and recompute the rise rate (R15, R16). -/
def appendRoadway (s : State) : State :=
  s.onProbes fun u =>
    let ring := appendHistory u.ring u.b.depth
    let r := riseOf s.cfg.th ring
    { u with ring := ring, rise := r.1, riseValid := r.2 }

/-! ### The commands -/

/-- SAMPLE_TIMER_EXPIRY (R2): the timer restarts, and a cycle begins unless one is in progress. -/
def sampleExpired (s : State) : State :=
  let s := s.onProbes fun u => { u with sampleTimer := .fromZero }
  if cycleRunning s then s else beginCycle s

/-- The meaning of SAMPLE_TIMER_EXPIRY (R2). -/
def execSampleTimerExpiry (s : State) : Host.Outcome State Fault Refusal :=
  .next (if inRun s && s.probes.sampleTimer.phase == .running then sampleExpired s else s)

/-- A probe enters CHARGE (R3, R4); the measurement is blanked where the surge signal is active (R7). -/
def beginCharge (s : State) (p : ProbeId) : State :=
  onProbe s p fun q =>
    { q with
      phase := .charge
      ticks := (probeCfg s.cfg p).nd
      charge := startCount (probeCfg s.cfg p)
      blank := surgeSignal s }

/-- The meaning of DISCHARGE_COMPLETE (R3, R4, R7). -/
def execDischargeComplete (s : State) : Host.Outcome State Fault Refusal :=
  .next (match probeIn s .discharge with
    | none => s
    | some p => if inRun s then beginCharge s p else s)

/-- A trip is taken: the charge counter is captured as it stands, and its count above the start count is the tick
value (R5-R13). -/
def tripTaken (s : State) (p : ProbeId) : State :=
  let captured := (s.probes.get p).charge
  let c := probeCfg s.cfg p
  completeMeasurement s p captured (tripReading c (captured - startCount c))

/-- The meaning of PROBE_TRIP (R5-R13). The operand is the count that the outside saw; the station captures its own
charge counter, so nothing reads it (DESIGN CHOICE, log 31). -/
def execProbeTrip (_captured : Nat) (s : State) : Host.Outcome State Fault Refusal :=
  .next (match probeIn s .charge with
    | none => s
    | some p => if inRun s then finish s (tripTaken s p) else s)

/-- An overflow is taken (R5-R13). The charge counter stands at 4095 after it: R5 says that the next tick would pass
4095, and not where that tick leaves the counter (DESIGN CHOICE, log 39). -/
def overflowTaken (s : State) (p : ProbeId) : State :=
  completeMeasurement s p 4095 (overflowReading (probeCfg s.cfg p))

/-- The meaning of PROBE_OVERFLOW (R5-R13). -/
def execProbeOverflow (s : State) : Host.Outcome State Fault Refusal :=
  .next (match probeIn s .charge with
    | none => s
    | some p => if inRun s then finish s (overflowTaken s p) else s)

/-- The history timer expires: an append, and the rise rate handed on where it changes (R15-R17). -/
def historyExpired (s : State) : State :=
  let s1 := appendRoadway (s.onProbes fun u => { u with historyTimer := .fromZero })
  if s1.probes.rise == s.probes.rise && s1.probes.riseValid == s.probes.riseValid then s1
  else evaluateStage s1 false

/-- The meaning of HISTORY_TIMER_EXPIRY (R15-R17). -/
def execHistoryTimerExpiry (s : State) : Host.Outcome State Fault Refusal :=
  .next (if inRun s && s.probes.historyTimer.phase == .running then finish s (historyExpired s) else s)

end Sys2Proof.Machine
end

