-- ==== Sys2Proof/Machine/Transmit.lean ====
section
/-! DEFINITION. The sending half of the Link Controller (Chapter 2, 2.3 to 2.5): the payloads gathered when a frame
begins (R35, R45, R115, Figure 10-1), the access gap, and the three commands of a transmission. -/

namespace Sys2Proof.Machine

/-! ### Payloads -/

/-- A pump's code in STATUS and in a REPORT, 15 for one that is not fitted (Figure 3-3, R45). -/
def pumpCode (s : State) (p : PumpId) : Nat := if fitted s.cfg p then pumpStateCode (pumpOf s p).state else 15

/-- The gate's code in STATUS and in a REPORT, 15 at a BAY station (Figure 3-3, R45). -/
def gateCode (s : State) : Nat := if s.cfg.portal then gateStateCode s.gate.state else 15

/-- Some start-table entry is pending and carries the budget-held mark (R45, R96). -/
def budgetHeldFlag (s : State) : Bool := tieOrder.any fun r => (entryOf s r).pending && (entryOf s r).budgetHeld

/-- Byte 0 of a STATUS (Figure 3-2). -/
def statusFlags (s : State) : Nat :=
  flagBit s.cfg.portal 7 + flagBit s.peers.isolated 6 + flagBit s.peers.duplicate 5 + flagBit s.stage.blind 4 +
  flagBit s.head.shedCapable 3 + flagBit (lagRunning s) 2 + flagBit (surgeSignal s) 1 +
  flagBit (s.cfg.portal && s.gate.blockedFlag) 0

/-- Byte 13 of a STATUS (Figure 3-2). -/
def statusGate (s : State) : Nat :=
  gateCode s * 16 + flagBit (s.cfg.portal && keyLocal s) 3 + flagBit (s.cfg.portal && s.gate.holdClosed) 2 +
  flagBit (budgetHeldFlag s) 1 + flagBit (s.cfg.portal && loopFault s) 0

/-- The rise rate as it is carried: 0 while invalid (R17). -/
def carriedRise (s : State) : Int := if s.probes.riseValid then s.probes.rise else 0

/-- The STATUS payload (R45, Figure 3-2). -/
def statusPayload (s : State) : List Byte :=
  [byteOf (statusFlags s), byteOf (stageCode s.stage.stage)] ++
  bytes16 (depthCode s.probes.b.depth) ++ bytesInt16 (carriedRise s) ++ bytes16 (depthCode s.probes.a.depth) ++
  bytes16 (min 4095 (ownDraw s)) ++ [byteOf (pumpCode s .p1 * 16 + pumpCode s .p2)] ++ bytes16 s.head.scale ++
  [byteOf (statusGate s), byteOf s.peers.seq]

/-- The reason code of an entry's request, 15 for none (Figure 6-6, R172). -/
def entryReasonCode (e : Entry) : Nat :=
  match e.request with
  | some q => reasonCode q.reason
  | none => 15

/-- Requester and reason of the served entry as one byte (Figure 6-6). -/
def servedByte (s : State) (r : Requester) : Byte := byteOf (requesterCode r * 16 + entryReasonCode (entryOf s r))

/-- The next free bytes (log 10). -/
def freeBytes (s : State) (n : Nat) : List Byte := (List.range n).map fun i => Config.freeByte (s.free + i)

/-- A CLAIM payload (R115), and how many of its bytes are free: all four with no entry served. -/
def claimPayload (s : State) : List Byte × Nat :=
  match servedOf s with
  | some r => ([servedByte s r, byteOf (entryLevel (entryOf s r))] ++ bytes16 (surgeDrawOf s r), 0)
  | none => (freeBytes s 4, 4)

/-- A BUSY payload (R109, R115), and how many of its bytes are free: all with no entry served, the remaining time
outside SURGE. -/
def busyPayload (s : State) : List Byte × Nat :=
  match servedOf s with
  | some r =>
      if s.arb.claim == .surge then ([servedByte s r] ++ bytes16 (remainingSurge s r), 0)
      else ([servedByte s r] ++ freeBytes s 2, 2)
  | none => (freeBytes s 3, 3)

/-- A DONE payload: the DONE record (R115). -/
def donePayload (s : State) : List Byte × Nat :=
  match s.arb.done with
  | some d => ([byteOf (requesterCode d.requester * 16 + reasonCode d.reason), byteOf (outcomeCode d.outcome)], 0)
  | none => (freeBytes s 2, 2)

/-- The page byte of a REPORT: the argument's low byte for QUERY, 0 for every other order (Figure 10-1). -/
def pageByte (r : ReportRecord) : Byte := if r.code = 1 then loByte r.arg.toNat else 0

/-- A REPORT payload: the report record (Figure 10-1). -/
def reportPayload (s : State) : List Byte × Nat :=
  match s.order with
  | some r => ([r.code, byteOf (resultCode r.result), pageByte r] ++ r.data, 0)
  | none => (freeBytes s 3, 3)

/-- The payload of a frame that begins, and the number of free bytes in it (R35). -/
def gatherPayload (s : State) : TxKind → List Byte × Nat
  | .status => (statusPayload s, 0)
  | .claim => claimPayload s
  | .busy => busyPayload s
  | .done => donePayload s
  | .report => reportPayload s

/-- Bytes 1 to 2+n of a frame of this station (Figure 2-2). -/
def frameBody (s : State) (k : TxKind) (payload : List Byte) : List Byte :=
  [byteOf (txKindCode k * 16 + s.cfg.station), byteOf payload.length] ++ payload

/-- The bytes of a frame, SYNC to CRC (R29, R35, Figure 2-2). -/
def frameBytes (s : State) (k : TxKind) (payload : List Byte) : List Byte :=
  [Config.sync] ++ frameBody s k payload ++ bytes16 (crcOf (frameBody s k payload)).toNat

/-! ### Access to the line (R34, R37) -/

/-- The order in which the kinds are chosen (R34). -/
def sendOrder : List TxKind := [.claim, .busy, .done, .status, .report]

/-- The pending frame that would be sent next (R34). -/
def chosenKind (s : State) : Option TxKind := sendOrder.find? (slotHeld s)

/-- The base of a kind's class in bit times (Figure 2-4). -/
def gapBase : TxKind → Nat
  | .claim => 10
  | .busy => 10
  | .done => 10
  | .status => 20
  | .report => 30

/-- The access gap of a frame with its failed attempts, in bit times (R34, R37). -/
def accessGap (c : StationConfig) (k : TxKind) (attempts : Nat) : Nat :=
  gapBase k + c.station + (if attempts = 0 then 0 else (c.station + 1) * 8)

/-- The chosen frame may begin: the station drives no frame of its own, and the idle time is at or beyond the
frame's gap (R34, R40). -/
def mayBegin (s : State) : Bool :=
  !driving s && s.link.idleCounting && (match chosenKind s with
    | some k => decide (accessGap s.cfg k ((s.link.slots.get k).getD 0) * Config.bitTime ≤ s.link.idle)
    | none => false)

/-! ### The commands -/

/-- The chosen frame leaves its slot and goes onto the line (R35). -/
def beginFrame (s : State) (k : TxKind) : State :=
  let g := gatherPayload s k
  let attempts := (s.link.slots.get k).getD 0
  let s1 := (setSlot s k none).onLink fun l =>
    { l with
      asm := .hunt
      buffer := .empty
      idle := 0
      idleCounting := false
      onLine := some { kind := k, attempts := attempts, bytes := frameBytes s k g.1, position := 0 } }
  s1.withFree (s.free + g.2)

/-- TRANSMISSION_BEGIN (R34, R35): the frame that the choice of R34 gives, where the idle time is still at its gap. -/
def execTransmissionBegin (s : State) : Host.Outcome State Fault Refusal :=
  .next (match chosenKind s with
    | none => s
    | some k => if inRun s && mayBegin s then beginFrame s k else s)

/-- This station's frame has failed and leaves the line: the idle time counts where the line stands at mark, and
stays at zero where another unit holds it at space (R24, R36). -/
def leaveLine (s : State) : State :=
  s.onLink fun l => { l with onLine := none, idle := 0, idleCounting := l.rx == .look }

/-- This station's frame leaves the line with its last stop bit, which has been read back as mark (R24, R38). -/
def leaveLineSent (s : State) : State :=
  s.onLink fun l => { l with onLine := none, rx := .look, idle := 0, idleCounting := true }

/-- The report of a kind that ends "sent" (R38): the own sequence number for STATUS, the own claim for CLAIM. -/
def reportSent (s : State) : TxKind → State
  | .status => advanceSeq s
  | .claim => claimReported s
  | .busy => s
  | .done => s
  | .report => s

/-- The report of a kind that ends "dropped" (R37). -/
def reportDropped (s : State) : TxKind → State
  | .claim => claimReported s
  | .status => s
  | .busy => s
  | .done => s
  | .report => s

/-- A failed attempt is handled (R37). Whether a newer frame of the kind has overtaken it is judged by the slot as it
stands: one that was queued and then withdrawn counts no more (DESIGN CHOICE, log 32). -/
def failedAttempt (s : State) (f : TxFrame) : State :=
  if slotHeld s f.kind then s
  else if f.attempts + 1 < 3 then setSlot s f.kind (some (f.attempts + 1))
  else reportDropped (countTxDropped s) f.kind

/-- COLLISION (R36, R37). It is taken at whatever position the frame stands, and not at the end of a character alone
(DESIGN CHOICE, log 46). -/
def execCollision (s : State) : Host.Outcome State Fault Refusal :=
  .next (match s.link.onLine with
    | none => s
    | some f => if inRun s then finish s (failedAttempt (countCollision (leaveLine s)) f) else s)

/-- FRAME_SENT (R38). It is taken at whatever position the frame stands, and not at its end alone (DESIGN CHOICE,
log 46). -/
def execFrameSent (s : State) : Host.Outcome State Fault Refusal :=
  .next (match s.link.onLine with
    | none => s
    | some f => if inRun s then finish s (reportSent (leaveLineSent s) f.kind) else s)

end Sys2Proof.Machine
end

