-- ==== Sys2Proof/Machine/Monitor.lean ====
section
/-! DEFINITION. The timer commands of the Peer Table (R41, R49), the Stage Monitor (R64) and the Start Arbiter (R97,
R107, R110, R114). -/

namespace Sys2Proof.Machine

/-- The status-period timer expires: it restarts, a STATUS is queued and the table is aged (R41, R49). -/
def statusPeriodExpired (s : State) : State :=
  agePeers (promptStatus (s.onPeers fun t => { t with timer := .fromZero }))

/-- STATUS_PERIOD_EXPIRY (R41, R49). -/
def execStatusPeriodExpiry (s : State) : Host.Outcome State Fault Refusal :=
  .next (if inRun s && s.peers.timer.phase == .running then finish s (statusPeriodExpired s) else s)

/-- STAGE_HOLD_EXPIRY (R64-R66). -/
def execStageHoldExpiry (s : State) : Host.Outcome State Fault Refusal :=
  .next (if inRun s && s.stage.hold == .running then finish s (evaluateStage s true) else s)

/-- The listen-in timer expires (R97). -/
def listenInExpired (s : State) : State :=
  s.onArb fun a => { a with listenIn := .elapsed, listenCount := listenInMs s.cfg }

/-- LISTEN_IN_EXPIRY (R97, R98). -/
def execListenInExpiry (s : State) : Host.Outcome State Fault Refusal :=
  .next (if inRun s && s.arb.listenIn == .running then finish s (listenInExpired s) else s)

/-- CLAIM_WINDOW_EXPIRY (R107). -/
def execClaimWindowExpiry (s : State) : Host.Outcome State Fault Refusal :=
  .next (if inRun s && s.arb.claim == .claimWait then finish s (windowExpired s) else s)

/-- SURGE_TIMER_EXPIRY (R110). -/
def execSurgeTimerExpiry (s : State) : Host.Outcome State Fault Refusal :=
  .next (if inRun s && s.arb.claim == .surge then finish s (surgeExpired s) else s)

/-- HOLDER_TIMEOUT (R114). -/
def execHolderTimeout (station : Nat) (s : State) : Host.Outcome State Fault Refusal :=
  .next (if inRun s && s.arb.claims.any (fun c => c.station == station) then finish s (removeClaim s station) else s)

end Sys2Proof.Machine
end

