-- ==== Sys2Proof/Machine/Budget.lean ====
section
/-! DEFINITION. The commands of the Headroom Unit (Chapter 5): a change of a supply sense, with its hand-offs, and the
budget evaluation. -/

namespace Sys2Proof.Machine

/-! ### Supply mode (R72, R73) -/

/-- The level of a supply sense. -/
def supplySense (i : Inputs) : SupplyLine → Bool
  | .mainsOk => i.mainsOk.level
  | .standbyOk => i.standbyOk.level

/-- A supply sense takes a level (R1). -/
def setSupplySense (i : Inputs) (l : SupplyLine) (b : Bool) : Inputs :=
  match l with
  | .mainsOk => { i with mainsOk := .settled b }
  | .standbyOk => { i with standbyOk := .settled b }

/-- A pump in its surge or running outside RUN goes to OFF where the supply mode becomes NONE (R134, R181). -/
def stopPoweredPump (s : State) (p : PumpId) : State := if contactorClosed s p then offBasic s p else s

/-- "to NONE" is handed to the blocks (R73, log 9). -/
def handSupplyLost (s : State) : State :=
  judgeShed (gateSupplyLost (lampsSupplyLost (pumpsSupplyLost (arbiterSupplyLost s))))

/-- "from NONE" is handed to the blocks (R73, R134, log 9). -/
def handSupplyBack (s : State) : State := judgeShed (pumpsSupplyBack (gateSupplyBack (postRelight s)))

/-- A change of supply mode acts, by the station mode; P1 is judged under R126 before P2 (R73, R85, R126, R134, R181,
logs 29, 41). -/
def supplyModeChanged (s : State) (old : Supply) : State :=
  match s.mode with
  | .run =>
      if s.head.supply == .none then handSupplyLost s
      else if old == .none then handSupplyBack s
      else judgeShed s
  | .start | .fallback =>
      if s.head.supply == .none then stopPoweredPump (stopPoweredPump s .p1) .p2
      else if old == .none then judgeThermal (judgeThermal s .p1) .p2
      else s

/-- A supply sense changes and the supply mode is judged again (R72). -/
def supplySenseChanged (s : State) (l : SupplyLine) (b : Bool) : State :=
  let old := s.head.supply
  let s := s.onInputs fun i => setSupplySense i l b
  let s := s.onHead fun u => { u with supply := supplyOf s.inputs }
  if s.head.supply == old then s else supplyModeChanged s old

/-- SUPPLY_SENSE_CHANGE (R72, R73). -/
def execSupplySenseChange (l : SupplyLine) (b : Bool) (s : State) : Host.Outcome State Fault Refusal :=
  .next (if supplySense s.inputs l == b then s else finish s (supplySenseChanged s l b))

/-! ### Budget evaluation (R84-R89) -/

/-- The number of shed-capable stations in the set of R84. -/
def shedCapableCount (s : State) : Nat :=
  (if s.head.shedCapable then 1 else 0) + ((usablePeers s).filter PeerContents.shed).length

/-- A lag-running peer of a higher number stands in the set (R87). -/
def higherLagRunning (s : State) : Bool :=
  s.peers.entries.any fun e => decide (s.cfg.station < e.station) && (match usableContents e with
    | some c => c.lag
    | none => false)

/-- The scale after a shed step (R86). -/
def shedScale (s : State) : Nat :=
  max s.cfg.sMin
    (s.head.scale - ceilDiv (ceilDiv (-s.head.h).toNat (shedCapableCount s) * 256) (fullLampDraw s))

/-- The draw that one recovery step would add (R88). -/
def recoveryDraw (s : State) : Nat := ceilDiv (fullLampDraw s * s.cfg.sStep) 256

/-- Steps 1 to 4 of a budget evaluation, on the stored headroom (Figure 5-3). -/
def budgetStep (s : State) : State :=
  if noSupply s then s
  else if s.head.h < 0 && s.head.shedCapable then judgeShed (setScale s (shedScale s))
  else if s.head.h < 0 && shedCapableCount s == 0 && lagRunning s && !higherLagRunning s then lagShed s
  else if decide ((s.cfg.mr : Int) ≤ s.head.h) && decide (s.head.scale < 256) &&
      decide ((recoveryDraw s : Int) ≤ s.head.h - s.cfg.mr) then
    judgeShed (setScale s (min 256 (s.head.scale + s.cfg.sStep)))
  else s

/-- A budget evaluation, with "budget evaluated" handed to the Start Arbiter (R84, R98). -/
def evaluateBudget (s : State) : State := select (budgetStep (judgeShed (storeHeadroom s)))

/-- BUDGET_TIMER_EXPIRY (R83, R84). -/
def execBudgetTimerExpiry (s : State) : Host.Outcome State Fault Refusal :=
  .next (if inRun s && s.head.timer.phase == .running then
    finish s (evaluateBudget (s.onHead fun u => { u with timer := .fromZero }))
  else s)

end Sys2Proof.Machine
end

