-- ==== Sys2Proof/Machine/Pumps.lean ====
section
/-! DEFINITION. The commands of the Pump Controller (Chapter 7): run-sense, thermal inputs, run and rest limits,
exercise and the float. -/

namespace Sys2Proof.Machine

/-- The station is in RUN or FALLBACK, where pump timers count (R131, R137, R138). -/
def pumpsAtWork (s : State) : Bool := s.mode != .start

/-! ### Run-sense (R125) -/

/-- The run-sense timer as the run-sense changes in RUNNING (R125). -/
def watchRunSense (present : Bool) (q : Pump) : Pump :=
  if q.state == .running then { q with runSense := if present then .cleared else .fromZero } else q

/-- A run-sense input takes a level. -/
def runSenseChanged (s : State) (p : PumpId) (present : Bool) : State :=
  onPump (s.onInputs fun i => { i with runSense := i.runSense.upd p fun _ => .settled present }) p
    (watchRunSense present)

/-- RUN_SENSE_CHANGE (R125). -/
def execRunSenseChange (p : PumpId) (present : Bool) (s : State) : Host.Outcome State Fault Refusal :=
  .next (if (s.inputs.runSense.get p).level == present then s else runSenseChanged s p present)

/-- RUN_SENSE_TIMER_EXPIRY (R125): FAULT with cause RUN_LOST. -/
def execRunSenseTimerExpiry (p : PumpId) (s : State) : Host.Outcome State Fault Refusal :=
  .next (if pumpsAtWork s && (pumpOf s p).state == .running && (pumpOf s p).runSense.phase == .running then
    finish s (settlePumps (enterFault s p .runLost))
  else s)

/-! ### Thermal inputs (R126) -/

/-- The pump stands in FAULT with cause THERMAL. -/
def thermalFault (q : Pump) : Bool := q.state == .fault && q.cause == some .thermal

/-- The thermal release timer as the input changes in FAULT with cause THERMAL; in START it waits for the new entry to
RUN or FALLBACK (R126, R138). -/
def watchThermal (mode : Mode) (asserted : Bool) (q : Pump) : Pump :=
  if thermalFault q then
    { q with thermal := if asserted || mode == .start then .cleared else .fromZero }
  else q

/-- A thermal input takes a level and is judged at its assertion (R126); log 29 for the judgement in START. -/
def thermalInputChanged (s : State) (p : PumpId) (asserted : Bool) : State :=
  let s := s.onInputs fun i => { i with thermal := i.thermal.upd p fun _ => .settled asserted }
  let s := onPump s p (watchThermal s.mode asserted)
  settlePumps (judgeThermal s p)

/-- THERMAL_INPUT_CHANGE (R126). -/
def execThermalInputChange (p : PumpId) (asserted : Bool) (s : State) : Host.Outcome State Fault Refusal :=
  .next (if (s.inputs.thermal.get p).level == asserted then s else finish s (thermalInputChanged s p asserted))

/-- THERMAL_RELEASE_EXPIRY (R126). -/
def execThermalReleaseExpiry (p : PumpId) (s : State) : Host.Outcome State Fault Refusal :=
  .next (if pumpsAtWork s && thermalFault (pumpOf s p) && (pumpOf s p).thermal.phase == .running then
    finish s (settlePumps (enterOff s p))
  else s)

/-! ### Run and rest limits (R128, R129) -/

/-- The run limit of a pump can expire (R128). -/
def runLimitApplies (s : State) (p : PumpId) : Bool :=
  let q := pumpOf s p
  inRun s && q.state == .running && (q.reason == some .demand || q.reason == some .handover) && !isFlood s &&
    runLimitMs s.cfg p != 0

/-- The run limit expires: relief due, with the count at A or beyond (R128). -/
def runLimitReached (s : State) (p : PumpId) : State :=
  settlePumps (onPump s p fun q =>
    { q with relief := true, run := { q.run with count := max q.run.count (runLimitMs s.cfg p) } })

/-- RUN_LIMIT_EXPIRY (R128). -/
def execRunLimitExpiry (p : PumpId) (s : State) : Host.Outcome State Fault Refusal :=
  .next (if runLimitApplies s p then finish s (runLimitReached s p) else s)

/-- REST_LIMIT_EXPIRY (R129). -/
def execRestLimitExpiry (p : PumpId) (s : State) : Host.Outcome State Fault Refusal :=
  .next (if inRun s && (pumpOf s p).state == .resting then finish s (settlePumps (enterOff s p)) else s)

/-! ### Exercise (R130) -/

/-- The exercise timer of an OFF pump reaches Tex (R130). -/
def exerciseReached (s : State) (p : PumpId) : State :=
  settlePumps (onPump s p fun q => { q with exercise := { phase := .atLimit, count := exerciseMs s.cfg p } })

/-- EXERCISE_DUE (R130). -/
def execExerciseDue (p : PumpId) (s : State) : Host.Outcome State Fault Refusal :=
  .next (if inRun s && (pumpOf s p).state == .off && (pumpOf s p).exercise.phase == .running then
    finish s (exerciseReached s p)
  else s)

/-- EXERCISE_TIME_EXPIRY (R130). -/
def execExerciseTimeExpiry (p : PumpId) (s : State) : Host.Outcome State Fault Refusal :=
  .next (if inRun s && (pumpOf s p).state == .running && (pumpOf s p).reason == some .exercise &&
      (pumpOf s p).exercise.phase == .running then
    finish s (settlePumps (enterOff s p))
  else s)

/-! ### The float (R131, R132) -/

/-- The float input takes a level. -/
def setFloat (s : State) (b : Bool) : State := s.onInputs fun i => { i with float := .settled b }

/-- Set the float timer. -/
def setFloatTimer (s : State) (t : Timer) : State := s.onPumps fun c => { c with floatTimer := t }

/-- FLOAT_ASSERTED (R131). -/
def execFloatAsserted (s : State) : Host.Outcome State Fault Refusal :=
  .next (if s.inputs.float.level then s
    else if pumpsAtWork s then setFloatTimer (setFloat s true) .fromZero
    else setFloat s true)

/-- The release of the float judges a pump that runs for it, also one that a warm restart has left RUNNING (R132). -/
def judgeFloatRun (s : State) (p : PumpId) : State :=
  if (pumpOf s p).reason == some .float then settleLeft s p else s

/-- The float is released: its timer is cleared and each FLOAT pump is judged (R131, R132). -/
def floatReleased (s : State) : State :=
  settlePumps (judgeFloatRun (judgeFloatRun (setFloatTimer (setFloat s false) .cleared) .p1) .p2)

/-- FLOAT_RELEASED (R131, R132). -/
def execFloatReleased (s : State) : Host.Outcome State Fault Refusal :=
  .next (if s.inputs.float.level then finish s (floatReleased s) else s)

/-- The float timer expires: it restarts, and a pump is started while the supply lasts (R131). -/
def floatExpired (s : State) : State :=
  let s := setFloatTimer s .fromZero
  if noSupply s then s
  else match floatChoice s with
    | none => s
    | some p => settlePumps (floatStart s p)

/-- FLOAT_TIMER_EXPIRY (R131). -/
def execFloatTimerExpiry (s : State) : Host.Outcome State Fault Refusal :=
  .next (if pumpsAtWork s && s.pumps.floatTimer.phase == .running then finish s (floatExpired s) else s)

/-- FLOAT_SURGE_EXPIRY (R125, R131). -/
def execFloatSurgeExpiry (p : PumpId) (s : State) : Host.Outcome State Fault Refusal :=
  .next (if pumpsAtWork s && (pumpOf s p).state == .surging && (pumpOf s p).floatSurge.phase == .running then
    finish s (endPumpSurge s p)
  else s)

end Sys2Proof.Machine
end

