-- ==== Sys2Proof/Machine/Lamps.lean ====
section
/-! DEFINITION. The commands of the Lamp Controller (Chapter 8): the PWM period, daylight, the flash timer and the
lamp test. -/

namespace Sys2Proof.Machine

/-- The applied duty a channel takes at a period boundary; an UNUSED channel has 0 (R139, R140). -/
def boundaryDuty (s : State) (ch : ChannelId) : Nat :=
  if (s.cfg.channel.get ch).role = 0 then 0 else s.lamps.computed.get ch

/-- A period boundary: the counter returns to 0 and the computed duties are applied (R139, R140). -/
def periodBoundary (s : State) : State :=
  s.onLamps fun l => { l with period := 0, applied := .build (boundaryDuty s) }

/-- PWM_PERIOD_BOUNDARY (R139, R140). -/
def execPwmPeriodBoundary (s : State) : Host.Outcome State Fault Refusal :=
  .next (if s.lamps.pwmRunning then periodBoundary s else s)

/-- The period counter comes to the position where a channel's output changes (R139, log 25). -/
def edgeReached (s : State) (n : Nat) : State := s.onLamps fun l => { l with period := max l.period n }

/-- ACTIVE_COUNT_REACHED (R139). -/
def execActiveCountReached (ch : ChannelId) (s : State) : Host.Outcome State Fault Refusal :=
  .next (match channelEdge s ch with
    | none => s
    | some n => if s.lamps.pwmRunning then edgeReached s n else s)

/-- The daylight input takes a level: the duties are computed afresh and, in RUN, shed-capable is judged (R85,
R141). -/
def daylightChanged (s : State) (b : Bool) : State :=
  let s := s.onInputs fun i => { i with daylight := .settled b }
  match s.mode with
  | .run => judgeShed (recomputeDuties s)
  | .fallback => recomputeDuties s
  | .start => s

/-- DAYLIGHT_CHANGE (R85, R141). -/
def execDaylightChange (b : Bool) (s : State) : Host.Outcome State Fault Refusal :=
  .next (if s.inputs.daylight.level == b then s else daylightChanged s b)

/-- The other phase of the flash timer (R144). -/
def FlashPhase.next : FlashPhase → FlashPhase
  | .on => .off
  | .off => .on
  | .stopped => .stopped

/-- A phase of the flash timer expires (R144, R150). -/
def flashExpired (s : State) : State :=
  recomputeDuties (s.onLamps fun l => { l with flash := l.flash.next, flashCount := 0 })

/-- FLASH_PHASE_EXPIRY (R144, R150). -/
def execFlashPhaseExpiry (s : State) : Host.Outcome State Fault Refusal :=
  .next (if s.mode != .start && s.lamps.flash != .stopped then flashExpired s else s)

/-- The lamp test ends (R147). -/
def endLampTest (s : State) : State := recomputeDuties (s.onLamps fun l => { l with test := .cleared })

/-- LAMP_TEST_EXPIRY (R147). -/
def execLampTestExpiry (s : State) : Host.Outcome State Fault Refusal :=
  .next (if inRun s && s.lamps.test.phase == .running then endLampTest s else s)

end Sys2Proof.Machine
end

