-- ==== Sys2Proof/Machine/Gate.lean ====
section
/-! DEFINITION. The commands of the Gate Controller (Chapter 9): loops, timers, limit switches, the key and the
pushbuttons. -/

namespace Sys2Proof.Machine

/-! ### Loops (R153) -/

/-- A loop's stuck timer and stuck fault as the loop changes; an uncounted loop has none (R153). -/
def stuckAtChange (counted occupied : Bool) (k : Stuck) : Stuck :=
  if !counted then k else if occupied then { k with timer := .fromZero } else .atReset

/-- A loop input takes a level. -/
def setLoop (s : State) (l : LoopId) (b : Bool) : State :=
  s.onInputs fun i => { i with loop := i.loop.upd l fun _ => .settled b }

/-- A loop changes while the gate is at work (R153). -/
def loopChanged (s : State) (l : LoopId) (b : Bool) : State :=
  loopsChanged (loopsClear s)
    ((setLoop s l b).onGate fun g => { g with stuck := g.stuck.upd l (stuckAtChange (s.cfg.counted.get l) b) })

/-- LOOP_CHANGE (R153, R158, R159, R165). -/
def execLoopChange (l : LoopId) (b : Bool) (s : State) : Host.Outcome State Fault Refusal :=
  .next (if (s.inputs.loop.get l).level == b then s
    else if gateAtWork s then finish s (loopChanged s l b)
    else setLoop s l b)

/-- A loop becomes stuck-faulted (R153). -/
def loopStuck (s : State) (l : LoopId) : State :=
  loopsChanged (loopsClear s) (s.onGate fun g =>
    { g with stuck := g.stuck.upd l fun _ =>
        { timer := { phase := .atLimit, count := stuckMs s.cfg }, fault := true } })

/-- STUCK_TIMER_EXPIRY (R153). -/
def execStuckTimerExpiry (l : LoopId) (s : State) : Host.Outcome State Fault Refusal :=
  .next (if gateAtWork s && (s.gate.stuck.get l).timer.phase == .running then finish s (loopStuck s l) else s)

/-! ### Timers -/

/-- A gate state that waits for the loops to have been clear for Tclear (R156, R159). -/
def waitsForLoops : GateState → Bool
  | .holding | .lowerPaused => true
  | .atOpen | .warning | .lowerPending | .lowering | .closed | .raisePending | .raising | .fault => false

/-- The dwell timer reaches Tclear (R153, R156, R159). -/
def dwellReached (s : State) : State :=
  let s := s.onGate fun g => { g with dwell := { phase := .atLimit, count := clearMs s.cfg } }
  if !keyLocal s && waitsForLoops s.gate.state then enterLowerPending s else s

/-- DWELL_TIMER_LIMIT (R153, R156, R159). -/
def execDwellTimerLimit (s : State) : Host.Outcome State Fault Refusal :=
  .next (if gateAtWork s && s.gate.dwell.phase == .running then finish s (dwellReached s) else s)

/-- The warning timer expires (R155). -/
def warningExpired (s : State) : State :=
  if s.gate.dwell.phase == .atLimit then enterLowerPending s else enterHolding s

/-- WARNING_TIMER_EXPIRY (R155). -/
def execWarningTimerExpiry (s : State) : Host.Outcome State Fault Refusal :=
  .next (if gateAtWork s && s.gate.state == .warning && s.gate.warning.phase == .running then
    finish s (warningExpired s)
  else s)

/-- The blocked timer expires: GATE_BLOCKED (R156). -/
def blockedExpired (s : State) : State :=
  s.onGate fun g => { g with blocked := { phase := .atLimit, count := blockedMs s.cfg }, blockedFlag := true }

/-- BLOCKED_TIMER_EXPIRY (R156). -/
def execBlockedTimerExpiry (s : State) : Host.Outcome State Fault Refusal :=
  .next (if gateAtWork s && s.gate.blocked.phase == .running then blockedExpired s else s)

/-- TRAVEL_TIMER_EXPIRY (R159, R161, R162, R165): FAULT with cause TRAVEL. -/
def execTravelTimerExpiry (s : State) : Host.Outcome State Fault Refusal :=
  .next (if gateAtWork s && s.gate.travel.phase == .running then finish s (enterGateFault s .travel) else s)

/-- The reopen timer reaches Tro (R160). -/
def reopenReached (s : State) : State :=
  let s := s.onGate fun g => { g with reopen := { phase := .atLimit, count := reopenMs s.cfg } }
  if s.gate.state == .closed && !s.gate.holdClosed && !keyLocal s then enterRaisePending s else s

/-- REOPEN_TIMER_LIMIT (R160). -/
def execReopenTimerLimit (s : State) : Host.Outcome State Fault Refusal :=
  .next (if gateAtWork s && s.gate.reopen.phase == .running then finish s (reopenReached s) else s)

/-- LOCAL_SURGE_EXPIRY (R75, R165): the motor runs on outside its surge. -/
def execLocalSurgeExpiry (s : State) : Host.Outcome State Fault Refusal :=
  .next (if gateAtWork s && s.gate.localSurge.phase == .running then
    s.onGate fun g => { g with localSurge := .cleared }
  else s)

/-! ### Limit switches (R157-R165) -/

/-- The motor goes off and the travel timer is cleared. -/
def stopTravel (s : State) : State := s.onGate fun g => { g with motor := .off, travel := .cleared }

/-- The DOWN limit is asserted alone with the key in AUTO (R159). -/
def downReached (s : State) : State :=
  match s.gate.state with
  | .lowering => enterClosed s
  | .warning | .holding | .lowerPending | .lowerPaused => enterClosed (cancelEntry s .gate)
  | .atOpen | .closed | .raisePending | .raising | .fault => s

/-- The UP limit is asserted alone with the key in AUTO (R161). -/
def upReached (s : State) : State :=
  match s.gate.state with
  | .raisePending => enterOpen (cancelEntry s .gate)
  | .raising => enterOpen (stopTravel s)
  | .atOpen | .warning | .holding | .lowerPending | .lowering | .lowerPaused | .closed | .fault => s

/-- A limit switch has changed under the LOCAL key: a motor that drives into its limit goes off, and the state tracks
the arm (R164, R165). -/
def localLimit (s : State) : State :=
  if (s.gate.motor == .down && s.inputs.limDown.level) || (s.gate.motor == .up && s.inputs.limUp.level) then
    localMotorOff s
  else trackArm s

/-- What a change of a limit switch does to the gate; `reached` is the effect of an assertion under AUTO (R162). -/
def limitChanged (s : State) (asserted : Bool) (reached : State → State) : State :=
  if s.gate.state == .fault then s
  else if asserted && s.inputs.limUp.level && s.inputs.limDown.level then enterGateFault s .limits
  else if keyLocal s then localLimit s
  else if asserted then reached s
  else s

/-- DOWN_LIMIT_CHANGE (R159, R160, R162, R164, R165). -/
def execDownLimitChange (b : Bool) (s : State) : Host.Outcome State Fault Refusal :=
  .next (if s.inputs.limDown.level == b then s
    else
      let s1 := s.onInputs fun i => { i with limDown := .settled b }
      if gateAtWork s then finish s (limitChanged s1 b downReached) else s1)

/-- UP_LIMIT_CHANGE (R161, R162, R164, R165). -/
def execUpLimitChange (b : Bool) (s : State) : Host.Outcome State Fault Refusal :=
  .next (if s.inputs.limUp.level == b then s
    else
      let s1 := s.onInputs fun i => { i with limUp := .settled b }
      if gateAtWork s then finish s (limitChanged s1 b upReached) else s1)

/-! ### The key (R164) -/

/-- The key is turned to LOCAL (R164). -/
def turnedToLocal (s : State) : State :=
  let s := cancelEntry s .gate
  let s := s.onGate fun g =>
    { g with
      motor := .off
      warning := .cleared
      blocked := .cleared
      travel := .cleared
      reopen := .cleared
      localSurge := .cleared
      closeOrder := false
      blockedFlag := false }
  trackArm s

/-- The key is turned to AUTO (R163, R164). -/
def turnedToAuto (s : State) : State :=
  deriveGate (s.onGate fun g => { g with motor := .off, travel := .cleared, localSurge := .cleared })

/-- Whether a key position is LOCAL. -/
def isLocal : KeyPosition → Bool
  | .localKey => true
  | .autoKey => false

/-- The key stands at its new position and the gate acts (R164). -/
def keyTurned (s : State) : State := if keyLocal s then turnedToLocal s else turnedToAuto s

/-- KEY_CHANGE (R164). -/
def execKeyChange (k : KeyPosition) (s : State) : Host.Outcome State Fault Refusal :=
  .next (if s.inputs.key.level == isLocal k then s
    else
      let s1 := s.onInputs fun i => { i with key := .settled (isLocal k) }
      if gateAtWork s then finish s (keyTurned s1) else s1)

/-! ### The pushbuttons (R165) -/

/-- A pushbutton's filter once a press is taken: its level is asserted. The command leaves the pin as it stands, so
that a press sent from outside with the pin released is released by the eighth sample after it; no rule acts on the
release (R1; DESIGN CHOICE, logs 4 and 24). -/
def pressed (f : Filter) : Filter := { f with level := true, opposite := 0 }

/-- A press reaches the motor: LOCAL, no FAULT, and a supply (R165, R166). -/
def pressActs (s : State) : Bool := gateAtWork s && keyLocal s && s.gate.state != .fault && !noSupply s

/-- LOWER is pressed (R165). -/
def lowerPressed (s : State) : State :=
  match s.gate.motor with
  | .off => if loopsClear s && !s.inputs.limDown.level then localMotorOn s .down else s
  | .up => localMotorOff s
  | .down => s

/-- RAISE is pressed (R165). -/
def raisePressed (s : State) : State :=
  match s.gate.motor with
  | .off => if s.inputs.limUp.level then s else localMotorOn s .up
  | .down => localMotorOff s
  | .up => s

/-- PB_LOWER (R165, log 24). -/
def execPbLower (s : State) : Host.Outcome State Fault Refusal :=
  .next (let s1 := s.onInputs fun i => { i with pbLower := pressed i.pbLower }
    if pressActs s then finish s (lowerPressed s1) else s1)

/-- PB_RAISE (R165, log 24). -/
def execPbRaise (s : State) : Host.Outcome State Fault Refusal :=
  .next (let s1 := s.onInputs fun i => { i with pbRaise := pressed i.pbRaise }
    if pressActs s then finish s (raisePressed s1) else s1)

/-- PB_STOP (R165, log 24). -/
def execPbStop (s : State) : Host.Outcome State Fault Refusal :=
  .next (let s1 := s.onInputs fun i => { i with pbStop := pressed i.pbStop }
    if pressActs s then finish s (localMotorOff s1) else s1)

end Sys2Proof.Machine
end

