-- ==== Sys2Proof/Machine/Loader.lean ====
section
/-! DEFINITION. The Configuration Loader (Chapter 11): the cold reset, the read of the image, the entries to RUN and
to FALLBACK with every block's entry actions, and the warm restart. -/

namespace Sys2Proof.Machine

/-! ### Cold reset (R180) -/

/-- A filter that has taken its first sample (R1). -/
def sampled (f : Filter) : Filter := .settled f.pin

/-- Every filter takes the level of its first sample (R1, log 5). -/
def sampledInputs (i : Inputs) : Inputs :=
  { runSense := ⟨sampled i.runSense.p1, sampled i.runSense.p2⟩
    thermal := ⟨sampled i.thermal.p1, sampled i.thermal.p2⟩
    float := sampled i.float
    mainsOk := sampled i.mainsOk
    standbyOk := sampled i.standbyOk
    limDown := sampled i.limDown
    limUp := sampled i.limUp
    loop := ⟨sampled i.loop.loop1, sampled i.loop.loop2⟩
    key := sampled i.key
    pbLower := sampled i.pbLower
    pbRaise := sampled i.pbRaise
    pbStop := sampled i.pbStop
    daylight := sampled i.daylight }

/-- Where the line stands for a receiver that forms no characters: a character in progress counts as space, until the
line returns to mark (R24; DESIGN CHOICE, log 30). -/
def lineLevelOf : RxPhase → RxPhase
  | .look => .look
  | .character | .awaitMark => .awaitMark

/-- A cold reset: every block at its cold-reset values, the supply mode as the sense inputs give (R72, R180); the
inputs and the level of the bay link are the outside's. -/
def coldResetState (s : State) : State :=
  let i := sampledInputs s.inputs
  { State.reset with
    inputs := i
    link := { Link.atReset with rx := lineLevelOf s.link.rx }
    head := .atReset (supplyOf i)
    free := s.free
    pending := s.pending }

/-- COLD_RESET (R180). -/
def execColdReset (s : State) : Host.Outcome State Fault Refusal := .next (coldResetState s)

/-- The read of the image begins (R175). -/
def beginRead (l : Loader) : Loader := { l with mode := .start, resetHeld := false, reading := true, periods := 0 }

/-- RESET_RELEASE: the station enters START and reads the image (R175, R180). -/
def execResetRelease (s : State) : Host.Outcome State Fault Refusal :=
  .next (if s.loader.resetHeld then s.onLoader beginRead else s)

/-! ### Entry to RUN (R178) -/

/-- A timer that starts from zero under a condition. -/
def startedIf (b : Bool) : Timer := if b then .fromZero else .cleared

/-- The Link Controller at entry to RUN: the receiver starts in HUNT and the idle time starts from zero, where it
stays while the line stands at space and while the rest of a stopped character is driven (R24, R39, R40). -/
def linkEnterRun (s : State) : State :=
  s.onLink fun l =>
    { l with
      asm := .hunt
      buffer := .empty
      rx := lineLevelOf l.rx
      idle := 0
      idleCounting := l.rx == .look && l.tail.isNone }

/-- The Headroom Unit at entry to RUN: s within s_min..256, and the budget timer (R83, R91). -/
def headEnterRun (s : State) : State :=
  s.onHead fun u => { u with scale := clampNat s.cfg.sMin 256 u.scale, timer := .fromZero }

/-- The Probe Unit at entry to RUN: both timers and the first cycle (R2, R15). -/
def probesEnterRun (s : State) : State :=
  beginCycle (s.onProbes fun u => { u with sampleTimer := .fromZero, historyTimer := .fromZero })

/-- The Peer Table at entry to RUN: its entries, its timer, the first STATUS, ISOLATED (R41, R46, R53). -/
def peersEnterRun (s : State) : State :=
  judgeIsolated (promptStatus (s.onPeers fun t => { t with entries := newEntries s.cfg, timer := .fromZero }))

/-- The Start Arbiter at entry to RUN: the listen-in timer (R97). -/
def arbiterEnterRun (s : State) : State :=
  s.onArb fun a => { a with listenIn := .running, listenCount := 0 }

/-- A pump's exercise timer at entry to RUN: it counts on in OFF, and in an exercise run (R137, R138). -/
def exerciseAtEntry (s : State) (p : PumpId) (q : Pump) : Timer :=
  if q.state == .off then exerciseInOff s p .off q.exercise
  else if q.state == .running && q.reason == some .exercise then { q.exercise with phase := .running }
  else q.exercise

/-- A pump's thermal release timer at entry to RUN or FALLBACK (R138). -/
def thermalAtEntry (s : State) (p : PumpId) (q : Pump) : Timer :=
  startedIf (thermalFault q && !(s.inputs.thermal.get p).level)

/-- One pump at entry to RUN; one that the configuration does not fit stands in OFF (R118, R137, R138), while the
service mask that a warm restart has kept for it as INHIBITED stays set (R117; DESIGN CHOICE, log 28). -/
def pumpEnterRun (s : State) (p : PumpId) : State :=
  if fitted s.cfg p then
    onPump s p fun q => { q with exercise := exerciseAtEntry s p q, thermal := thermalAtEntry s p q }
  else settleLeft (onPump s p fun _ => .atReset) p

/-- A station with one pump keeps P1 as lead, whatever an earlier image fitted (R124). -/
def leadFitted (c : StationConfig) (lead : PumpId) : PumpId := if fitted c .p2 then lead else .p1

/-- A pump that START has left running is judged under R126 at the entry to RUN (DESIGN CHOICE, log 29). -/
def judgeLeftRunning (s : State) (p : PumpId) : State := if contactorClosed s p then judgeThermal s p else s

/-- The Pump Controller at entry to RUN: the lead designation, exercise timers and the float timer, and the thermal
inputs of the pumps left RUNNING, P1 before P2 (logs 29, 41). The latches are judged, and the pumps left RUNNING by a
warm restart with them, at the first event of R120 (R124, R126, R131, R137, R138, log 20). -/
def pumpsEnterRun (s : State) : State :=
  let s := pumpEnterRun (pumpEnterRun s .p1) .p2
  let s := s.onPumps fun c =>
    { c with lead := leadFitted s.cfg c.lead, floatTimer := startedIf s.inputs.float.level }
  judgeLeftRunning (judgeLeftRunning s .p1) .p2

/-- The Lamp Controller at entry to RUN: the period counter, the duties of the new configuration, warning active,
and RELIGHT (R146, R148, R149, R151). The counter's restart at 0 is no period boundary: the applied duties of a used
channel stay until the next one (R140; DESIGN CHOICE, log 25). -/
def lampsEnterRun (s : State) : State :=
  let s := s.onLamps fun l => { l with period := 0, pwmRunning := true }
  let s := judgeWarning (recomputeDuties s)
  let s := s.onLamps fun l => { l with applied := .build fun ch =>
    if (s.cfg.channel.get ch).role = 0 then 0 else l.applied.get ch }
  if relightNeeded s && !noSupply s then postRelight s else s

/-- A loop's stuck timer at entry to RUN (R153). -/
def stuckAtEntry (s : State) (l : LoopId) : Stuck :=
  { timer := startedIf (s.cfg.counted.get l && (s.inputs.loop.get l).level), fault := false }

/-- The dwell and stuck timers start at entry to RUN (R153). -/
def loopsEnterRun (s : State) : State :=
  let s := s.onGate fun g => { g with stuck := ⟨stuckAtEntry s .loop1, stuckAtEntry s .loop2⟩ }
  s.onGate fun g => { g with dwell := startedIf (loopsClear s) }

/-- The Gate Controller at entry to RUN: dwell and stuck timers and the derivation; a BAY station has no gate (R153,
R163, R168, R169, log 28). -/
def gateEnterRun (s : State) : State :=
  if s.cfg.portal then deriveGate (loopsEnterRun s)
  else s.onGate fun _ => .atReset

/-- "to NONE" at entry to RUN with the supply mode NONE (R73). -/
def supplyEnterRun (s : State) : State := if noSupply s then handSupplyLost s else judgeShed s

/-- The loaded configuration is taken and the station stands in a mode (R175-R179). -/
def takeImage (s : State) (image : List Byte) (mode : Mode) : State :=
  s.onLoader fun l =>
    { l with
      mode := mode
      reading := false
      periods := Config.readPeriods
      image := image
      cfg := clampFields (readFields image)
      clamped := wasClamped image }

/-- Entry to RUN: every block's entry actions (R178, log 9). -/
def enterRun (s : State) (image : List Byte) : State :=
  let s := arbiterEnterRun (headEnterRun (linkEnterRun (takeImage s image .run)))
  let s := probesEnterRun (peersEnterRun s)
  supplyEnterRun (gateEnterRun (lampsEnterRun (pumpsEnterRun s)))

/-! ### Entry to FALLBACK (R179) -/

/-- One pump at entry to FALLBACK: OFF unless in FAULT or INHIBITED, with no exercise (R137, R138). -/
def pumpEnterFallback (s : State) (p : PumpId) : State :=
  let q := pumpOf s p
  if !fitted s.cfg p then settleLeft (onPump s p fun _ => .atReset) p
  else if q.state == .fault || q.state == .inhibited then
    onPump s p fun q => { q with exercise := .cleared, thermal := thermalAtEntry s p q }
  else enterOff s p

/-- The Pump Controller at entry to FALLBACK: the lead designation and the float timer (R124, R131, R137, R138). -/
def pumpsEnterFallback (s : State) : State :=
  let s := pumpEnterFallback (pumpEnterFallback s .p1) .p2
  s.onPumps fun c => { c with lead := leadFitted s.cfg c.lead, floatTimer := startedIf s.inputs.float.level }

/-- The Lamp Controller at entry to FALLBACK: the flash timer in its ON phase and the fixed duties (R150). -/
def lampsEnterFallback (s : State) : State :=
  recomputeDuties (s.onLamps fun l =>
    { l with period := 0, pwmRunning := true, flash := .on, flashCount := 0, test := .cleared,
             applied := .build fun ch => if (s.cfg.channel.get ch).role = 0 then 0 else l.applied.get ch })

/-- Entry to FALLBACK: every block that works there (R179). The gate state stays as it stands: OPEN after a cold
reset, the state derived at the restart after a warm one (R168, R169; DESIGN CHOICE, log 36). -/
def enterFallback (s : State) (image : List Byte) : State :=
  lampsEnterFallback (pumpsEnterFallback (takeImage s image .fallback))

/-- The station is reading its image in START (R175). -/
def readingImage (s : State) : Bool := s.mode == .start && s.loader.reading

/-- IMAGE_READ_COMPLETE (R175-R179). -/
def execImageReadComplete (image : List Byte) (s : State) : Host.Outcome State Fault Refusal :=
  .next (if readingImage s then
    (if imageValid image then enterRun s image else enterFallback s image)
  else s)

/-! ### Warm restart (R181) -/

/-- A probe at a warm restart: the raw tick value keeps its value (R19), and the charge counter, which R19 does not
name, stays where it stands (DESIGN CHOICE, log 38). -/
def restartProbe (p : Probe) : Probe := { Probe.atReset with charge := p.charge, raw := p.raw }

/-- The Probe Unit at a warm restart (R19). -/
def restartProbes (u : ProbeUnit) : ProbeUnit :=
  { ProbeUnit.atReset with a := restartProbe u.a, b := restartProbe u.b, blanked := u.blanked }

/-- The rest of the character that a frame on the line has in progress (R40). -/
def tailOf (f : TxFrame) : Option TxTail :=
  if f.position < f.bytes.length * Config.characterTime then
    some { byte := f.bytes.getD (f.position / Config.characterTime) 0, position := f.position % Config.characterTime }
  else none

/-- The Link Controller at a warm restart; a frame on the line is stopped at the end of the character in progress,
which is driven to its end (R40, log 11). -/
def restartLink (l : Link) : Link :=
  { Link.atReset with
    rx := lineLevelOf l.rx
    tail := (match l.onLine with
      | some f => tailOf f
      | none => l.tail)
    counters := l.counters }

/-- The Peer Table at a warm restart (R57). -/
def restartPeers (t : PeerTable) : PeerTable := { PeerTable.atReset with seq := t.seq, seqGap := t.seqGap }

/-- The Headroom Unit at a warm restart (R91). -/
def restartHead (u : Headroom) : Headroom := { u with shedCapable := false, timer := .cleared }

/-- A pump's start-table entry at a warm restart: its service mask stays while the pump is INHIBITED (R117). -/
def restartEntry (q : Pump) : Entry := { Entry.atReset with mask := q.state == .inhibited }

/-- The Start Arbiter at a warm restart (R117). -/
def restartArbiter (c : PumpControl) : Arbiter :=
  { Arbiter.atReset with
    table := { StartTable.atReset with p1 := restartEntry c.pump.p1, p2 := restartEntry c.pump.p2 } }

/-- A pump that stands in OFF after a warm restart, with its exercise timer held (R138). -/
def restartOff (q : Pump) : Pump := { Pump.atReset with exercise := exerciseHeld q.exercise }

/-- A pump left RUNNING through a warm restart, with its run-sense present (R138). -/
def restartRunning (q : Pump) : Pump :=
  { q with
    state := .running
    run := if q.state == .surging then .fromZero else q.run
    runSense := .cleared
    floatSurge := .cleared
    exercise := exerciseHeld q.exercise }

/-- A pump at a warm restart (R138). -/
def restartPump (runSense : Bool) (q : Pump) : Pump :=
  match q.state with
  | .surging | .running => if runSense then restartRunning q else restartOff q
  | .off | .pending | .claiming => restartOff q
  | .resting => { q with exercise := exerciseHeld q.exercise, relief := false }
  | .fault | .inhibited => { q with thermal := .cleared, relief := false }

/-- The running order after a warm restart: kept, but for a pump that becomes RUNNING from its surge (R138, log 20).
-/
def restartLater (i : Inputs) (c : PumpControl) : Option PumpId :=
  if c.pump.p2.state == .surging && i.runSense.p2.level then some .p2
  else if c.pump.p1.state == .surging && i.runSense.p1.level then some .p1
  else c.later

/-- The Pump Controller at a warm restart: the latches and the float timer are cleared, the lead designation kept, and
the pumps left RUNNING wait for the latches to be judged afresh (R138, log 20). -/
def restartPumps (i : Inputs) (c : PumpControl) : PumpControl :=
  let p1 := restartPump i.runSense.p1.level c.pump.p1
  let p2 := restartPump i.runSense.p2.level c.pump.p2
  { c with
    pump := ⟨p1, p2⟩
    leftRunning := ⟨p1.state == .running, p2.state == .running⟩
    later := restartLater i c
    leadDemand := false
    lagDemand := false
    floatTimer := .cleared }

/-- A warm restart takes the stage to WET, and the change is handed to the Pump Controller: where the stage leaves
FLOOD the run limit of each pump left RUNNING is judged (R71, R128, R129). -/
def restartStageChange (before s : State) : State :=
  if isFlood before then judgeRunLimit (judgeRunLimit s .p1) .p2 else s

/-- A pump that a warm restart has sent to OFF is judged under R126 there, as at every entry to OFF (R126, R138). -/
def judgeSentOff (before s : State) (p : PumpId) : State :=
  if (pumpOf before p).state != .off && (pumpOf s p).state == .off then judgeThermal s p else s

/-- The bank condition after a warm restart (R151). -/
def restartBank : Bank → Bank
  | .dark => .dark
  | .relighting => .lit
  | .lit => .lit

/-- The Lamp Controller at a warm restart; the duties of an ended lamp test are computed afresh (R151). -/
def restartLamps (s : State) : State :=
  let tested := s.lamps.test.phase == .running
  let s := s.onLamps fun l =>
    { l with bank := restartBank l.bank, warning := false, flash := .stopped, flashCount := 0, test := .cleared }
  if tested then recomputeDuties s else s

/-- The Gate Controller at a warm restart: everything but HOLD_CLOSED is cleared, and the state is derived (R169). -/
def restartGate (s : State) : State :=
  if s.cfg.portal then
    let s := s.onGate fun g =>
      { GateControl.atReset with state := g.state, cause := g.cause, holdClosed := g.holdClosed }
    s.onGate fun g =>
      { g with
        state := derivedState s
        cause := if derivedState s == .fault then (if keyLocal s then g.cause else some .limits) else none }
  else s

/-- A warm restart: each block applies its rule at once, the stage WET among them, which reaches the gate, the lamps
and the start table in the rules of their own, and the image is read again (R71, R175, R181). -/
def warmRestart (s : State) : State :=
  let s1 := { s with
    loader := beginRead s.loader
    probes := restartProbes s.probes
    link := restartLink s.link
    peers := restartPeers s.peers
    stage := .atReset
    head := restartHead s.head
    arb := restartArbiter s.pumps
    pumps := restartPumps s.inputs s.pumps
    order := none }
  let s2 := restartStageChange s s1
  restartGate (restartLamps (judgeSentOff s (judgeSentOff s s2 .p1) .p2))

end Sys2Proof.Machine
end

