-- ==== Sys2Proof/Machine/Orders.lean ====
section
/-! DEFINITION. The Order Handler (Chapter 10): the end of an accepted frame, the report record, the pages of QUERY,
and the order commands with the actions of the blocks that own them (R135, R136, R147, R162, R167). -/

namespace Sys2Proof.Machine

/-! ### The end of an accepted frame (R25, R30) -/

/-- The station's receiver forms characters: RUN, with nothing of its own on the line (R35, R39, R40). -/
def listening (s : State) : Bool := inRun s && !driving s

/-- The last stop bit of a frame: the assembler is back in HUNT, and the idle time restarts (R24, R25). A frame that
is judged at the moment this station's own begins finds that one on the line, and the idle time stays at zero (R33,
R101, log 26). -/
def frameEnded (s : State) : State :=
  s.onLink fun l =>
    { l with asm := .hunt, buffer := .empty, rx := .look, idle := 0, idleCounting := !driving s }

/-- A frame is accepted: RX_OK counts it (R30). -/
def frameAccepted (s : State) : State := countRxOk (frameEnded s)

/-! ### The report record (R170, R171) -/

/-- The order is stored with its result and data, and a REPORT is queued (R170). -/
def answer (s : State) (code : Byte) (arg : Half) (result : OrderResult) (data : List Byte) : State :=
  queueFrame (s.withOrder (some { code := code, arg := arg, result := result, data := data })) .report

/-! ### QUERY (R172) -/

/-- The code of the served requester, 15 for none (R172). -/
def servedCode (s : State) : Nat :=
  match servedOf s with
  | some r => requesterCode r
  | none => 15

/-- The lead pump: 1, 2, or 0 with no pump fitted (R172). -/
def leadCode (s : State) : Nat :=
  if s.cfg.pumpCount = 0 then 0
  else match s.pumps.lead with
    | .p1 => 1
    | .p2 => 2

/-- QUERY page 0 (R172). Bits 2 to 0 of the flags, which R172 does not assign, are 0 (DESIGN CHOICE, log 45). -/
def queryPage0 (s : State) : List Byte :=
  [byteOf (stageCode s.stage.stage),
   byteOf (flagBit s.stage.blind 7 + flagBit s.peers.isolated 6 + flagBit s.peers.duplicate 5 +
     flagBit s.head.shedCapable 4 + flagBit (s.arb.listenIn == .elapsed) 3),
   byteOf (supplyCode s.head.supply)] ++
  bytesInt16 s.head.h ++ bytes16 s.head.scale ++
  [byteOf (claimCode s.arb.claim), byteOf (servedCode s), byteOf s.arb.claims.length, byteOf (leadCode s)] ++
  bytes16 (effectiveWindow s.cfg) ++ bytes16 (effectiveHolder s.cfg)

/-- The trigger of an entry's request is EDGE. -/
def entryEdge (e : Entry) : Bool :=
  match e.request with
  | some q => q.trigger == .edge
  | none => false

/-- The level byte of an entry, 255 for none (R172). -/
def entryLevelByte (e : Entry) : Byte :=
  match e.request with
  | some q => byteOf q.level
  | none => 255

/-- The three bytes of a start-table entry (R172, page 1). Bit 0 of the flags, which R172 does not assign, is 0
(DESIGN CHOICE, log 45). -/
def entryBytes (s : State) (r : Requester) : List Byte :=
  let e := entryOf s r
  [byteOf (flagBit e.pending 7 + flagBit e.served 6 + flagBit e.armed 5 + flagBit e.mask 4 +
     flagBit e.budgetHeld 3 + flagBit (masked s r) 2 + flagBit (entryEdge e) 1),
   byteOf (entryReasonCode e), entryLevelByte e]

/-- QUERY page 1 (R172). -/
def queryPage1 (s : State) : List Byte := tieOrder.flatMap (entryBytes s)

/-- The five bytes of a claim record (R172, page 2). -/
def recordBytes (c : ClaimRecord) : List Byte :=
  [byteOf (c.station * 16 + c.urgency), byteOf (c.requester * 16 + c.reason)] ++ bytes16 c.sd ++
  [byteOf (c.holder / 200)]

/-- QUERY page 2 (R172). -/
def queryPage2 (s : State) : List Byte := (s.arb.claims.take 4).flatMap recordBytes

/-- QUERY page 3 (R172). -/
def queryPage3 (s : State) : List Byte := ((s.arb.claims.drop 4).take 3).flatMap recordBytes

/-- The freshness code of a peer entry (R172, page 4). -/
def freshnessCode (age : Option Nat) : Nat :=
  match age with
  | none => 3
  | some _ => match freshnessOf age with
    | .fresh => 0
    | .stale => 1
    | .lost => 2

/-- The two bytes of a peer entry (R172, page 4). -/
def peerBytes (e : PeerEntry) : List Byte :=
  [byteOf (e.station * 16 + freshnessCode e.age), byteOf (e.age.getD 0)]

/-- QUERY page 4 (R172). -/
def queryPage4 (s : State) : List Byte := s.peers.entries.flatMap peerBytes

/-- The data of a QUERY, absent for a page above 4 (R172). -/
def queryData (s : State) (page : Nat) : Option (List Byte) :=
  match page with
  | 0 => some (queryPage0 s)
  | 1 => some (queryPage1 s)
  | 2 => some (queryPage2 s)
  | 3 => some (queryPage3 s)
  | 4 => some (queryPage4 s)
  | _ => none

/-- QUERY is taken (R172). -/
def takeQuery (arg : Half) (s : State) : State :=
  match queryData s arg.toNat with
  | some data => answer s 1 arg .accepted data
  | none => answer s 1 arg .badArgument []

/-! ### DESCRIBE and COUNTERS (R173) -/

/-- The lamp channel roles as one byte (R173). -/
def rolesByte (c : StationConfig) : Nat :=
  c.channel.ch0.role + c.channel.ch1.role * 4 + c.channel.ch2.role * 16 + c.channel.ch3.role * 64

/-- The capability record (R173). Of byte 10 R173 gives bit 0 alone; the others are 0 (DESIGN CHOICE, log 45). -/
def describeData (s : State) : List Byte :=
  bytes16 Config.partCode ++
  [byteOf s.cfg.station, byteOf (flagBit s.cfg.portal 0), byteOf s.cfg.pumpCount, byteOf (rolesByte s.cfg),
   byteOf (flagBit s.cfg.portal 0), s.loader.image.getD 2 0, s.loader.image.getD 126 0,
   s.loader.image.getD 127 0, byteOf (flagBit s.loader.clamped 0), s.cfg.roster]

/-- DESCRIBE is taken (R173). -/
def takeDescribe (arg : Half) (s : State) : State := answer s 2 arg .accepted (describeData s)

/-- The ten counts of COUNTERS (R173). -/
def countersData (s : State) : List Byte :=
  let c := s.link.counters
  [c.rxOk, c.crcErr, c.lengthErr, c.unknownKind, c.foreign, c.fragment, c.collision, c.txDropped,
   s.peers.seqGap, s.probes.blanked].flatMap bytes16

/-- Clear all ten counts (R173). -/
def clearCounts (s : State) : State :=
  ((onCounters s fun _ => .zero).onPeers fun t => { t with seqGap := 0 }).onProbes fun u => { u with blanked := 0 }

/-- COUNTERS is taken (R173). -/
def takeCounters (arg : Half) (s : State) : State :=
  if arg = 0 then answer s 3 arg .accepted (countersData s)
  else if arg = 1 then answer (clearCounts s) 3 arg .accepted (countersData s)
  else answer s 3 arg .badArgument []

/-! ### Gate orders (R167, R171) -/

/-- The gate's byte of report data (R171). -/
def gateData (s : State) : List Byte := [byteOf (gateCode s)]

/-- A gate order is judged by the checks of R171 and acts where it is accepted. -/
def gateOrder (code : Byte) (arg : Half) (accepts : State → Bool) (act : State → State) (s : State) : State :=
  if !s.cfg.portal then answer s code arg .refusedRole []
  else if keyLocal s then answer s code arg .refusedKey (gateData s)
  else if accepts s then answer (act s) code arg .accepted (gateData (act s))
  else answer s code arg .refusedState (gateData s)

/-- A state that GATE_CLOSE and GATE_HOLD send to WARNING (Figure 9-3). -/
def closeFrom (s : State) : State :=
  match s.gate.state with
  | .atOpen | .raisePending | .raising => reverseToWarning s
  | .warning | .holding | .lowerPending | .lowering | .lowerPaused | .closed | .fault => s

/-- GATE_CLOSE acts: the close order is set, except in CLOSED (R167). -/
def actClose (s : State) : State :=
  closeFrom (if s.gate.state == .closed then s else s.onGate fun g => { g with closeOrder := true })

/-- GATE_CLOSE is taken (R167, Figure 9-3). -/
def takeGateClose (arg : Half) (s : State) : State := gateOrder 4 arg (fun s => s.gate.state != .fault) actClose s

/-- A state in which GATE_OPEN is accepted below FLOOD without HOLD_CLOSED (Figure 9-3). -/
def openAccepted (s : State) : Bool :=
  !isFlood s && !s.gate.holdClosed && (match s.gate.state with
    | .lowering | .fault => false
    | .atOpen | .warning | .holding | .lowerPending | .lowerPaused | .closed | .raisePending | .raising => true)

/-- GATE_OPEN acts (R167, Figure 9-3). -/
def actOpen (s : State) : State :=
  let s := s.onGate fun g => { g with closeOrder := false }
  match s.gate.state with
  | .warning | .holding | .lowerPending | .lowerPaused => leaveClosingPath s
  | .closed => enterRaisePending s
  | .atOpen | .lowering | .raisePending | .raising | .fault => s

/-- GATE_OPEN is taken (R167). -/
def takeGateOpen (arg : Half) (s : State) : State := gateOrder 5 arg openAccepted actOpen s

/-- GATE_HOLD acts: HOLD_CLOSED is set, in FAULT too (R167). -/
def actHold (s : State) : State := closeFrom (s.onGate fun g => { g with holdClosed := true })

/-- GATE_HOLD is taken (R167). -/
def takeGateHold (arg : Half) (s : State) : State := gateOrder 6 arg (fun _ => true) actHold s

/-- GATE_RELEASE acts: HOLD_CLOSED is cleared, and R157 and R160 are judged (R167). -/
def actRelease (s : State) : State :=
  let s := s.onGate fun g => { g with holdClosed := false }
  if s.gate.state == .closed && s.gate.reopen.phase == .atLimit then enterRaisePending s else judgeClosing s

/-- GATE_RELEASE is taken (R167). -/
def takeGateRelease (arg : Half) (s : State) : State := gateOrder 7 arg (fun _ => true) actRelease s

/-- A fault of the gate can be cleared (R162). -/
def gateClearable (s : State) : Bool :=
  s.gate.state == .fault &&
  !(s.gate.cause == some .limits && s.inputs.limUp.level && s.inputs.limDown.level)

/-- CLEAR_FAULT naming the gate is taken, in either key position (R162). -/
def takeClearGate (arg : Half) (s : State) : State :=
  if !s.cfg.portal then answer s 10 arg .refusedRole []
  else if gateClearable s then answer (deriveCleared s) 10 arg .accepted (gateData (deriveCleared s))
  else answer s 10 arg .refusedState (gateData s)

/-! ### Pump orders (R135, R136, R171) -/

/-- The pump an argument names, if it is fitted (R171). -/
def pumpNamed (s : State) (arg : Half) : Option PumpId :=
  if arg = 1 && fitted s.cfg .p1 then some .p1
  else if arg = 2 && fitted s.cfg .p2 then some .p2
  else none

/-- The pump's byte of report data (R171). -/
def pumpData (s : State) (p : PumpId) : List Byte := [byteOf (pumpCode s p)]

/-- A pump order has been acted on, with the attempts of R98 and R105 that it calls for, which may take the pump on to
CLAIMING before its state is reported (R171, log 8). -/
def actedOn (act : State → PumpId → State) (s : State) (p : PumpId) : State := finish s (act s p)

/-- A pump order is judged by the checks of R171 and acts where it is accepted. -/
def pumpOrder (code : Byte) (arg : Half) (accepts : State → PumpId → Bool) (act : State → PumpId → State)
    (s : State) : State :=
  match pumpNamed s arg with
  | none => answer s code arg .badArgument []
  | some p =>
      if accepts s p then answer (actedOn act s p) code arg .accepted (pumpData (actedOn act s p) p)
      else answer s code arg .refusedState (pumpData s p)

/-- PUMP_INHIBIT acts (R135). A pump already INHIBITED stays as it is. -/
def actInhibit (s : State) (p : PumpId) : State :=
  if (pumpOf s p).state == .inhibited then s
  else
    let s := onPump (setPumpState s p .inhibited) p (pumpStopped none)
    let s := setMask (cancelEntry s (pumpRequester p)) (pumpRequester p)
    settlePumps (passLeadFrom (waiveRest s p.other) p)

/-- PUMP_INHIBIT is taken (R135). -/
def takePumpInhibit (arg : Half) (s : State) : State := pumpOrder 8 arg (fun _ _ => true) actInhibit s

/-- PUMP_RELEASE acts (R136). -/
def actReleasePump (s : State) (p : PumpId) : State := settlePumps (enterOff (clearMask s (pumpRequester p)) p)

/-- PUMP_RELEASE is taken (R136). -/
def takePumpRelease (arg : Half) (s : State) : State :=
  pumpOrder 9 arg (fun s p => (pumpOf s p).state == .inhibited) actReleasePump s

/-- A fault of a pump can be cleared: the pump is in FAULT and its thermal input is not asserted, whatever the
cause. These are the words of R136; Figure 7-3 accepts the order for causes NO_RUN and RUN_LOST with the input
asserted too (DESIGN CHOICE, log 34). -/
def pumpClearable (s : State) (p : PumpId) : Bool :=
  (pumpOf s p).state == .fault && !(s.inputs.thermal.get p).level

/-- CLEAR_FAULT of a pump acts (R136). -/
def actClearPump (s : State) (p : PumpId) : State := settlePumps (enterOff s p)

/-- CLEAR_FAULT naming a pump is taken (R136). -/
def takeClearPump (arg : Half) (s : State) : State := pumpOrder 10 arg pumpClearable actClearPump s

/-! ### LAMP_TEST, RESTART and the codes that are no order -/

/-- LAMP_TEST is taken (R147). -/
def takeLampTest (arg : Half) (s : State) : State :=
  if s.lamps.warning || relightNeeded s then answer s 11 arg .refusedState []
  else answer (recomputeDuties (s.onLamps fun l => { l with test := .fromZero })) 11 arg .accepted []

/-- An order code that no order carries (R170). -/
def takeUnknown (code : Byte) (arg : Half) (s : State) : State := answer s code arg .unknownOrder []

/-! ### The commands -/

/-- An order's frame ends and is accepted, and the order is taken, in RUN (R170). It calls for no attempt, or has made
those that it calls for. -/
def orderTaken (take : State → State) (s : State) : State := if inRun s then take (frameAccepted s) else s

/-- The same of an order of the gate, whose attempts follow what it does (R98, R105, log 8). -/
def gateOrderTaken (take : State → State) (s : State) : State :=
  if inRun s then finish s (take (frameAccepted s)) else s

/-- The frame of a CLEAR_FAULT order (R136, R162). -/
def clearFaultTaken (arg : Half) (s : State) : State :=
  if arg = 3 then gateOrderTaken (takeClearGate arg) s else orderTaken (takeClearPump arg) s

/-- The frame of an order addressed to this station, by the order's code (R170, Figure 10-2). -/
def takeOrder (code : Byte) (arg : Half) (s : State) : State :=
  match code.toNat with
  | 1 => orderTaken (takeQuery arg) s
  | 2 => orderTaken (takeDescribe arg) s
  | 3 => orderTaken (takeCounters arg) s
  | 4 => gateOrderTaken (takeGateClose arg) s
  | 5 => gateOrderTaken (takeGateOpen arg) s
  | 6 => gateOrderTaken (takeGateHold arg) s
  | 7 => gateOrderTaken (takeGateRelease arg) s
  | 8 => orderTaken (takePumpInhibit arg) s
  | 9 => orderTaken (takePumpRelease arg) s
  | 10 => clearFaultTaken arg s
  | 11 => orderTaken (takeLampTest arg) s
  | 12 => orderTaken warmRestart s
  | _ => orderTaken (takeUnknown code arg) s

/-- QUERY (R172). -/
def execQuery (arg : Half) (s : State) : Host.Outcome State Fault Refusal := .next (orderTaken (takeQuery arg) s)
/-- DESCRIBE (R173). -/
def execDescribe (arg : Half) (s : State) : Host.Outcome State Fault Refusal :=
  .next (orderTaken (takeDescribe arg) s)
/-- COUNTERS (R173). -/
def execCounters (arg : Half) (s : State) : Host.Outcome State Fault Refusal :=
  .next (orderTaken (takeCounters arg) s)
/-- GATE_CLOSE (R167). -/
def execGateClose (arg : Half) (s : State) : Host.Outcome State Fault Refusal :=
  .next (gateOrderTaken (takeGateClose arg) s)
/-- GATE_OPEN (R167). -/
def execGateOpen (arg : Half) (s : State) : Host.Outcome State Fault Refusal :=
  .next (gateOrderTaken (takeGateOpen arg) s)
/-- GATE_HOLD (R167). -/
def execGateHold (arg : Half) (s : State) : Host.Outcome State Fault Refusal :=
  .next (gateOrderTaken (takeGateHold arg) s)
/-- GATE_RELEASE (R167). -/
def execGateRelease (arg : Half) (s : State) : Host.Outcome State Fault Refusal :=
  .next (gateOrderTaken (takeGateRelease arg) s)
/-- PUMP_INHIBIT (R135). -/
def execPumpInhibit (arg : Half) (s : State) : Host.Outcome State Fault Refusal :=
  .next (orderTaken (takePumpInhibit arg) s)
/-- PUMP_RELEASE (R136). -/
def execPumpRelease (arg : Half) (s : State) : Host.Outcome State Fault Refusal :=
  .next (orderTaken (takePumpRelease arg) s)
/-- CLEAR_FAULT (R136; an argument of 3 names the gate, R162). -/
def execClearFault (arg : Half) (s : State) : Host.Outcome State Fault Refusal :=
  .next (clearFaultTaken arg s)
/-- CLEAR_FAULT with argument 3 (R162). -/
def execClearFaultGate (s : State) : Host.Outcome State Fault Refusal := .next (gateOrderTaken (takeClearGate 3) s)
/-- LAMP_TEST (R147). -/
def execLampTest (arg : Half) (s : State) : Host.Outcome State Fault Refusal :=
  .next (orderTaken (takeLampTest arg) s)
/-- RESTART (R174, R181); its argument is not used. -/
def execRestart (_arg : Half) (s : State) : Host.Outcome State Fault Refusal :=
  .next (orderTaken warmRestart s)
/-- UNKNOWN_ORDER (R170): a code that some order carries does not come here. -/
def execUnknownOrder (code : Byte) (arg : Half) (s : State) : Host.Outcome State Fault Refusal :=
  .next (if isOrderCode code then s else orderTaken (takeUnknown code arg) s)

/-- An ORDER is this station's: sent by the service tool to this station's number (R170). -/
def orderIsOwn (s : State) (sender : Nat) (target : Byte) : Bool :=
  decide (sender = Config.toolNumber) && decide (target.toNat = s.cfg.station)

/-- A sender whose frames pass check 4 of R28 for an ORDER. -/
def orderSender (s : State) (sender : Nat) : Bool :=
  decide (sender = Config.toolNumber) || (decide (sender < 8) && inRoster s.cfg sender)

/-- ORDER_IGNORED (R170): an accepted ORDER that is not this station's is counted and changes nothing else. -/
def execOrderIgnored (sender : Nat) (target _code : Byte) (_arg : Half) (s : State) :
    Host.Outcome State Fault Refusal :=
  .next (if inRun s && orderSender s sender && !orderIsOwn s sender target then frameAccepted s else s)

end Sys2Proof.Machine
end

