-- ==== Sys2Proof/Machine/Receive.lean ====
section
/-! DEFINITION. The receiving half of the Link Controller (Chapter 2, 2.1 and 2.2): the receiver, the receive
assembler, the judgement of a complete frame, and the arrivals. -/

namespace Sys2Proof.Machine

/-! ### The judgement of a complete frame (R28) -/

/-- What a complete frame is judged to be (R28). -/
inductive Verdict where
  | crcErr | unknownKind | lengthErr | foreign | accepted
deriving DecidableEq, Repr

/-- A frame's kind code (Figure 2-2). -/
def frameKind (f : RxFrame) : Nat := f.header.toNat / 16

/-- A frame's sender (Figure 2-2). -/
def frameSender (f : RxFrame) : Nat := f.header.toNat % 16

/-- The CRC computed over bytes 1 to 2+n (R29). -/
def frameCrc (f : RxFrame) : Half := crcOf ([f.header, byteOf f.payload.length] ++ f.payload)

/-- The payload length of a kind (R28, check 3). -/
def lengthFits (kind n : Nat) : Bool :=
  match kind with
  | 1 => n == 15
  | 2 => n == 4
  | 3 => n == 3
  | 4 => n == 2
  | 5 => n == 4
  | 6 => decide (3 ≤ n) && decide (n ≤ 24)
  | _ => false

/-- The sender passes check 4 of R28. -/
def senderFits (c : StationConfig) (kind sender : Nat) : Bool :=
  if sender = Config.toolNumber then kind == orderKindCode else decide (sender < 8) && inRoster c sender

/-- The judgement of a complete frame, first failing check first (R28). -/
def verdict (c : StationConfig) (f : RxFrame) : Verdict :=
  if frameCrc f != f.crc then .crcErr
  else if frameKind f == 0 || decide (6 < frameKind f) then .unknownKind
  else if !lengthFits (frameKind f) f.payload.length then .lengthErr
  else if !senderFits c (frameKind f) (frameSender f) then .foreign
  else .accepted

/-! ### What an accepted frame brings about (R30) -/

/-- A STATUS is handed to the Peer Table (R50, R54). -/
def statusTaken (s : State) (sender : Nat) (payload : List Byte) : State :=
  if sender = s.cfg.station then ownNumberHeard s else statusHeard s sender payload

/-- A CLAIM is handed over (R54, R112). -/
def claimTaken (s : State) (sender : Nat) (payload : List Byte) : State :=
  if sender = s.cfg.station then ownNumberHeard s else claimHeard s sender payload

/-- A BUSY is handed over (R54, R113). -/
def busyTaken (s : State) (sender : Nat) (payload : List Byte) : State :=
  if sender = s.cfg.station then ownNumberHeard s else busyHeardFrom s sender payload

/-- A DONE is handed over (R54, R114). -/
def doneTaken (s : State) (sender : Nat) : State :=
  if sender = s.cfg.station then ownNumberHeard s else removeClaim s sender

/-- An accepted ORDER is handed to the Order Handler; one that is not this station's is counted alone (R170). -/
def orderHeard (s : State) (sender : Nat) (payload : List Byte) : State :=
  if orderIsOwn s sender (payloadByte payload 0) then
    takeOrder (payloadByte payload 1) (BitVec.ofNat 16 (payloadHalf payload 2)) s
  else frameAccepted s

/-- A frame ends, is counted under RX_OK and handed to the blocks that own its kind, and the attempts that this calls
for are made (R30, R98, R105). -/
def handOver (s : State) (f : RxFrame) : State :=
  match frameKind f with
  | 1 => finish s (statusTaken (frameAccepted s) (frameSender f) f.payload)
  | 2 => finish s (claimTaken (frameAccepted s) (frameSender f) f.payload)
  | 3 => finish s (busyTaken (frameAccepted s) (frameSender f) f.payload)
  | 4 => finish s (doneTaken (frameAccepted s) (frameSender f))
  | 5 => orderHeard s (frameSender f) f.payload
  | _ => frameAccepted s

/-- A discarded frame is counted once (R28). -/
def countVerdict (s : State) : Verdict → State
  | .crcErr => countCrcErr s
  | .unknownKind => countUnknownKind s
  | .lengthErr => countLengthErr s
  | .foreign => countForeign s
  | .accepted => countRxOk s

/-- A complete frame ends and is judged (R25, R28, R30). -/
def frameComplete (s : State) (f : RxFrame) : State :=
  let v := verdict s.cfg f
  if v = .accepted then handOver s f else countVerdict (frameEnded s) v

/-! ### The receive assembler (R25-R27, Figure 2-3) -/

/-- The end of a good character's stop bit (R22, R24). -/
def characterEnded (s : State) : State :=
  s.onLink fun l => { l with rx := .look, idle := 0, idleCounting := true }

/-- The assembler in a state, with its buffer. -/
def assemble (s : State) (st : AsmState) (b : FrameBuffer) : State :=
  s.onLink fun l => { l with asm := st, buffer := b }

/-- The frame that the buffer holds once its CRC is whole. -/
def bufferedFrame (b : FrameBuffer) (low : Byte) : RxFrame :=
  { header := b.header.getD 0
    payload := b.payload
    crc := BitVec.ofNat 16 (join16 (b.crc.headD 0) low) }

/-- A length byte above 24: LENGTH_ERR and DISCARD (R27). -/
def lengthRefused (s : State) : State := assemble (countLengthErr (characterEnded s)) .discard .empty

/-- A good character reaches the assembler (R25, R27, Figure 2-3); a frame's last one makes what its frame makes. -/
def assembleByte (s : State) (x : Byte) : State :=
  let b := s.link.buffer
  match s.link.asm with
  | .hunt => if x = Config.sync then assemble (characterEnded s) .header .empty else characterEnded s
  | .header => assemble (characterEnded s) .length { b with header := some x }
  | .length =>
      if 24 < x.toNat then lengthRefused s
      else assemble (characterEnded s) (if x.toNat = 0 then .crcHigh else .payload) { b with length := some x }
  | .payload =>
      assemble (characterEnded s)
        (if (b.length.getD 0).toNat ≤ b.payload.length + 1 then .crcHigh else .payload)
        { b with payload := b.payload ++ [x] }
  | .crcHigh => assemble (characterEnded s) .crcLow { b with crc := [x] }
  | .crcLow => frameComplete s (bufferedFrame b x)
  | .discard => characterEnded s

/-- An assembler state with a frame begun and not complete (R26). -/
def midFrame : AsmState → Bool
  | .header | .length | .payload | .crcHigh | .crcLow => true
  | .hunt | .discard => false

/-- A frame is abandoned: one FRAGMENT, its bytes discarded (R26). -/
def abandonFrame (s : State) (st : AsmState) : State := assemble (countFragment s) st .empty

/-! ### The commands of the receiver -/

/-- The receiver forms a character: it does not wait for the line to return to mark (R22). -/
def formsCharacter (s : State) : Bool := listening s && s.link.rx != .awaitMark

/-- GOOD_CHARACTER (R22, R25-R30). -/
def execGoodCharacter (x : Byte) (s : State) : Host.Outcome State Fault Refusal :=
  .next (if formsCharacter s then assembleByte s x else s)

/-- The line stays at space after a bad stop bit (R22, R24). -/
def stopBitBad (s : State) : State :=
  s.onLink fun l => { l with rx := .awaitMark, idle := 0, idleCounting := false }

/-- BAD_CHARACTER (R22, R26). -/
def execBadCharacter (s : State) : Host.Outcome State Fault Refusal :=
  .next (if formsCharacter s then
    (if midFrame s.link.asm then abandonFrame (stopBitBad s) .discard else stopBitBad s)
  else s)

/-- LENGTH_BYTE_ERROR (R27). -/
def execLengthByteError (n : Byte) (s : State) : Host.Outcome State Fault Refusal :=
  .next (if formsCharacter s && s.link.asm == .length && decide (24 < n.toNat) then lengthRefused s else s)

/-- The line idle time has passed 4 bit times (R26). -/
def idlePassed (s : State) : State :=
  s.onLink fun l => { l with idle := max l.idle (4 * Config.bitTime + 1) }

/-- LINK_IDLE_TIMEOUT (R26, Figure 2-3). -/
def execLinkIdleTimeout (s : State) : Host.Outcome State Fault Refusal :=
  .next (if listening s && s.link.idleCounting then
    (if midFrame s.link.asm then abandonFrame (idlePassed s) .hunt
     else if s.link.asm == .discard then assemble (idlePassed s) .hunt .empty
     else idlePassed s)
  else s)

/-- The line has left mark: in a receiver that forms characters one begins; otherwise the level of the line alone is
followed (R22, R24, log 30). -/
def lineLeft (s : State) : State :=
  s.onLink fun l =>
    { l with rx := if listening s then .character else .awaitMark, idle := 0, idleCounting := false }

/-- START_BIT (R22, R24): the line leaves mark outside a character. -/
def execStartBit (s : State) : Host.Outcome State Fault Refusal :=
  .next (if s.link.rx == .look then lineLeft s else s)

/-- The line is back at mark: the idle time restarts from zero, and counts in a receiver that forms characters (R24,
R39). -/
def lineBack (s : State) : State :=
  s.onLink fun l => { l with rx := .look, idle := 0, idleCounting := listening s }

/-- LINE_RETURN_TO_MARK (R22, R24): after a glitch or a bad stop bit. -/
def execLineReturnToMark (s : State) : Host.Outcome State Fault Refusal :=
  .next (if s.link.rx != .look then lineBack s else s)

/-- FRAME_REJECTED (R28). -/
def execFrameRejected (f : RxFrame) (s : State) : Host.Outcome State Fault Refusal :=
  .next (if inRun s && verdict s.cfg f != .accepted then
    countVerdict (frameEnded s) (verdict s.cfg f)
  else s)

/-! ### The arrivals -/

/-- A frame of a roster station with its kind's length is accepted in RUN (R28, R39). -/
def arrives (s : State) (kind sender : Nat) (payload : List Byte) : Bool :=
  inRun s && decide (sender < 8) && inRoster s.cfg sender && lengthFits kind payload.length

/-- STATUS_ARRIVAL (R30, R50-R55). -/
def execStatusArrival (sender : Nat) (payload : List Byte) (s : State) : Host.Outcome State Fault Refusal :=
  .next (if arrives s 1 sender payload then finish s (statusTaken (frameAccepted s) sender payload) else s)

/-- CLAIM_ARRIVAL (R30, R54, R101, R103, R109, R112). -/
def execClaimArrival (sender : Nat) (payload : List Byte) (s : State) : Host.Outcome State Fault Refusal :=
  .next (if arrives s 2 sender payload then finish s (claimTaken (frameAccepted s) sender payload) else s)

/-- BUSY_ARRIVAL (R30, R54, R101, R104, R113). -/
def execBusyArrival (sender : Nat) (payload : List Byte) (s : State) : Host.Outcome State Fault Refusal :=
  .next (if arrives s 3 sender payload then finish s (busyTaken (frameAccepted s) sender payload) else s)

/-- DONE_ARRIVAL (R30, R54, R114). -/
def execDoneArrival (sender : Nat) (payload : List Byte) (s : State) : Host.Outcome State Fault Refusal :=
  .next (if arrives s 4 sender payload then finish s (doneTaken (frameAccepted s) sender) else s)

/-- REPORT_ARRIVAL (R30): counted, and otherwise ignored. -/
def execReportArrival (sender : Nat) (payload : List Byte) (s : State) : Host.Outcome State Fault Refusal :=
  .next (if arrives s 6 sender payload then frameAccepted s else s)

end Sys2Proof.Machine
end

