-- ==== Sys2Proof/Machine/Clock.lean ====
section
/-! DEFINITION. One period of Fref (00_scope.md, Conventions; R1, R3, R4, R21, R24, R139, R175): every count of the
station goes on, and the commands that fall due are put into the queue. This is what a step does when no command
waits (log 3). -/

namespace Sys2Proof.Machine

/-! ### Counts -/

/-- One ms of a running timer. -/
def Timer.tick (t : Timer) : Timer := match t.phase with
  | .running => { t with count := t.count + 1 }
  | .stopped | .held | .atLimit => t

/-- A running timer has come to its limit. -/
def Timer.due (t : Timer) (limit : Nat) : Bool := t.phase == .running && decide (limit ≤ t.count)

/-- A command that is due under a condition. -/
def dueIf (b : Bool) (c : Instr) : List Instr := if b then [c] else []

/-! ### Debounce (R1) -/

/-- One sample of a debounce filter: the eighth opposite sample in a row stands until it is taken (R1). -/
def sampleFilter (f : Filter) : Filter :=
  { f with opposite := if f.pin == f.level then 0 else min 8 (f.opposite + 1) }

/-- A filter's level changes: eight consecutive samples show the opposite level (R1). -/
def filterTurns (f : Filter) : Bool := f.opposite == 8

/-- One sample of a pushbutton's filter: its release changes the level and nothing else (R1, log 24). -/
def sampleButton (f : Filter) : Filter :=
  let g := sampleFilter f
  if filterTurns g && g.level then .settled false else g

/-- One sample of every input (R1). -/
def sampleInputs (i : Inputs) : Inputs :=
  { runSense := ⟨sampleFilter i.runSense.p1, sampleFilter i.runSense.p2⟩
    thermal := ⟨sampleFilter i.thermal.p1, sampleFilter i.thermal.p2⟩
    float := sampleFilter i.float
    mainsOk := sampleFilter i.mainsOk
    standbyOk := sampleFilter i.standbyOk
    limDown := sampleFilter i.limDown
    limUp := sampleFilter i.limUp
    loop := ⟨sampleFilter i.loop.loop1, sampleFilter i.loop.loop2⟩
    key := sampleFilter i.key
    pbLower := sampleButton i.pbLower
    pbRaise := sampleButton i.pbRaise
    pbStop := sampleButton i.pbStop
    daylight := sampleFilter i.daylight }

/-- The changes of filtered levels that the last sample brings (R1). -/
def dueInputs (i : Inputs) : List Instr :=
  dueIf (filterTurns i.runSense.p1) (.runSenseChange .p1 i.runSense.p1.pin) ++
  dueIf (filterTurns i.runSense.p2) (.runSenseChange .p2 i.runSense.p2.pin) ++
  dueIf (filterTurns i.thermal.p1) (.thermalInputChange .p1 i.thermal.p1.pin) ++
  dueIf (filterTurns i.thermal.p2) (.thermalInputChange .p2 i.thermal.p2.pin) ++
  dueIf (filterTurns i.float && i.float.pin) .floatAsserted ++
  dueIf (filterTurns i.float && !i.float.pin) .floatReleased ++
  dueIf (filterTurns i.mainsOk) (.supplySenseChange .mainsOk i.mainsOk.pin) ++
  dueIf (filterTurns i.standbyOk) (.supplySenseChange .standbyOk i.standbyOk.pin) ++
  dueIf (filterTurns i.limDown) (.downLimitChange i.limDown.pin) ++
  dueIf (filterTurns i.limUp) (.upLimitChange i.limUp.pin) ++
  dueIf (filterTurns i.loop.loop1) (.loopChange .loop1 i.loop.loop1.pin) ++
  dueIf (filterTurns i.loop.loop2) (.loopChange .loop2 i.loop.loop2.pin) ++
  dueIf (filterTurns i.key) (.keyChange (if i.key.pin then .localKey else .autoKey)) ++
  dueIf (filterTurns i.pbLower) .pbLower ++
  dueIf (filterTurns i.pbRaise) .pbRaise ++
  dueIf (filterTurns i.pbStop) .pbStop ++
  dueIf (filterTurns i.daylight) (.daylightChange i.daylight.pin)

/-! ### Timers in ms -/

/-- One ms of a pump's timers. -/
def tickPump (q : Pump) : Pump :=
  { q with
    run := q.run.tick
    runSense := q.runSense.tick
    thermal := q.thermal.tick
    exercise := q.exercise.tick
    floatSurge := q.floatSurge.tick }

/-- One ms of the Pump Controller's timers. -/
def tickPumps (s : State) : State := s.onPumps fun c =>
  { c with pump := ⟨tickPump c.pump.p1, tickPump c.pump.p2⟩, floatTimer := c.floatTimer.tick }

/-- One ms of the Lamp Controller's timers. -/
def tickLamps (s : State) : State := s.onLamps fun l =>
  { l with flashCount := if l.flash == .stopped then l.flashCount else l.flashCount + 1, test := l.test.tick }

/-- One ms of a loop's stuck timer. -/
def tickStuck (k : Stuck) : Stuck := { k with timer := k.timer.tick }

/-- One ms of the Gate Controller's timers. -/
def tickGate (s : State) : State := s.onGate fun g =>
  { g with
    warning := g.warning.tick
    dwell := g.dwell.tick
    blocked := g.blocked.tick
    travel := g.travel.tick
    reopen := g.reopen.tick
    localSurge := g.localSurge.tick
    stuck := ⟨tickStuck g.stuck.loop1, tickStuck g.stuck.loop2⟩ }

/-- One ms of the Start Arbiter's timers. -/
def tickArbiter (s : State) : State := s.onArb fun a =>
  { a with
    window := a.window.tick
    surge := a.surge.tick
    listenCount := if a.listenIn == .running then a.listenCount + 1 else a.listenCount
    claims := a.claims.map fun c => { c with holder := c.holder + 1 } }

/-- One ms of the timers of the Probe Unit, the Peer Table, the Stage Monitor and the Headroom Unit. -/
def tickUnits (s : State) : State :=
  let s := s.onProbes fun u => { u with sampleTimer := u.sampleTimer.tick, historyTimer := u.historyTimer.tick }
  let s := s.onPeers fun t => { t with timer := t.timer.tick }
  let s := s.onStage fun m => { m with holdCount := if m.hold == .running then m.holdCount + 1 else m.holdCount }
  s.onHead fun u => { u with timer := u.timer.tick }

/-- One ms: in RUN every timer counts, in FALLBACK those of the pumps and the lamps, in START none. -/
def tickTimers (s : State) : State :=
  match s.mode with
  | .run => tickLamps (tickPumps (tickGate (tickArbiter (tickUnits s))))
  | .fallback => tickLamps (tickPumps s)
  | .start => s

/-- The flash timer's limit (R144, R150). -/
def flashLimit (s : State) : Nat :=
  if s.mode == .fallback then Config.fallbackFlash
  else if s.lamps.flash == .on then s.cfg.flashOn * 10 else s.cfg.flashOff * 10

/-- A pump's commands that are due in RUN and in FALLBACK (R125, R126, R131). -/
def duePump (s : State) (p : PumpId) : List Instr :=
  let q := pumpOf s p
  dueIf (q.state == .running && q.runSense.due Config.runSenseLimit) (.runSenseTimerExpiry p) ++
  dueIf (thermalFault q && q.thermal.due Config.thermalLimit) (.thermalReleaseExpiry p) ++
  dueIf (q.state == .surging && q.floatSurge.due (s.cfg.pump.get p).tsurge) (.floatSurgeExpiry p)

/-- A pump's commands that are due in RUN alone (R128-R130). A run limit that an EXERCISE run has passed, and that
applies once the reason has become HANDOVER by an immediate completion, comes due at the next ms: R128 names no moment
for it (DESIGN CHOICE, log 42). -/
def duePumpRun (s : State) (p : PumpId) : List Instr :=
  let q := pumpOf s p
  dueIf (runLimitApplies s p && !q.relief && q.run.due (runLimitMs s.cfg p)) (.runLimitExpiry p) ++
  dueIf (q.state == .resting && q.run.due (restLimitMs s.cfg p)) (.restLimitExpiry p) ++
  dueIf (q.state == .off && q.exercise.due (exerciseMs s.cfg p)) (.exerciseDue p) ++
  dueIf (q.state == .running && q.reason == some .exercise && q.exercise.due (exerciseRunMs s.cfg p))
    (.exerciseTimeExpiry p)

/-- The commands due at a ms in RUN and in FALLBACK. -/
def dueShared (s : State) : List Instr :=
  duePump s .p1 ++ duePump s .p2 ++
  dueIf (s.pumps.floatTimer.due (floatMs s.cfg)) .floatTimerExpiry ++
  dueIf (s.lamps.flash != .stopped && decide (flashLimit s ≤ s.lamps.flashCount)) .flashPhaseExpiry

/-- The Gate Controller's commands that are due. -/
def dueGate (s : State) : List Instr :=
  let g := s.gate
  dueIf (g.stuck.loop1.timer.due (stuckMs s.cfg)) (.stuckTimerExpiry .loop1) ++
  dueIf (g.stuck.loop2.timer.due (stuckMs s.cfg)) (.stuckTimerExpiry .loop2) ++
  dueIf (g.dwell.due (clearMs s.cfg)) .dwellTimerLimit ++
  dueIf (g.warning.due (warningMs s.cfg)) .warningTimerExpiry ++
  dueIf (g.blocked.due (blockedMs s.cfg)) .blockedTimerExpiry ++
  dueIf (g.travel.due (travelMs s.cfg)) .travelTimerExpiry ++
  dueIf (g.reopen.due (reopenMs s.cfg)) .reopenTimerLimit ++
  dueIf (g.localSurge.due s.cfg.tgsurge) .localSurgeExpiry

/-- The Start Arbiter's commands that are due. -/
def dueArbiter (s : State) : List Instr :=
  let a := s.arb
  dueIf (a.listenIn == .running && decide (listenInMs s.cfg ≤ a.listenCount)) .listenInExpiry ++
  dueIf (a.window.due (effectiveWindow s.cfg)) .claimWindowExpiry ++
  dueIf (match servedOf s with
    | some r => a.surge.due (surgeTime s.cfg r)
    | none => false) .surgeTimerExpiry ++
  a.claims.flatMap fun c => dueIf (decide (effectiveHolder s.cfg ≤ c.holder)) (.holderTimeout c.station)

/-- The commands due at a ms in RUN. -/
def dueRun (s : State) : List Instr :=
  dueIf (s.probes.sampleTimer.due (tsMs s.cfg)) .sampleTimerExpiry ++
  dueIf (s.probes.historyTimer.due (thMs s.cfg)) .historyTimerExpiry ++
  dueIf (s.peers.timer.due (tstatMs s.cfg)) .statusPeriodExpiry ++
  dueIf (s.stage.hold == .running && decide (tshMs s.cfg ≤ s.stage.holdCount)) .stageHoldExpiry ++
  dueIf (s.head.timer.due (tstatMs s.cfg)) .budgetTimerExpiry ++
  dueIf (s.lamps.test.due Config.lampTestLimit) .lampTestExpiry ++
  dueArbiter s ++ dueGate s ++ duePumpRun s .p1 ++ duePumpRun s .p2

/-- The commands due at a ms, by the station mode. -/
def dueTimers (s : State) : List Instr :=
  match s.mode with
  | .run => dueRun s ++ dueShared s
  | .fallback => dueShared s
  | .start => []

/-- One ms: the inputs are sampled and the timers count (R1). -/
def tickMs (s : State) : State := tickTimers (s.onInputs sampleInputs)

/-- The commands that a ms brings. -/
def dueMs (s : State) : List Instr := dueInputs s.inputs ++ dueTimers s

/-! ### The link sample clock (R21, R24, R34) -/

/-- One sixteenth of a bit time of the idle time and of the frame on the line. -/
def tickFrame (l : Link) : Link :=
  { l with
    idle := if l.idleCounting then min Config.idleMax (l.idle + 1) else l.idle
    onLine := l.onLine.map fun f => { f with position := f.position + 1 } }

/-- One sixteenth of a bit time of the character that a stopped frame finishes. At the end of its stop bit the station
releases the line, and in RUN the idle time counts from there where the line stands at mark (R24, R40). -/
def tickTail (run : Bool) (l : Link) : Link :=
  match l.tail with
  | none => l
  | some t =>
      if t.position + 1 < Config.characterTime then { l with tail := some { t with position := t.position + 1 } }
      else { l with tail := none, idle := 0, idleCounting := run && l.rx == .look && l.onLine.isNone }

/-- One link sample clock. -/
def tickLink (s : State) : State :=
  s.onLink fun l => tickTail (inRun s) (if inRun s then tickFrame l else l)

/-- The frame on the line has come to the end of its last stop bit (R38). -/
def frameDone (s : State) : Bool :=
  match s.link.onLine with
  | some f => decide (f.bytes.length * Config.characterTime ≤ f.position)
  | none => false

/-- The commands that a link sample clock brings in RUN. -/
def dueLink (s : State) : List Instr :=
  if inRun s then
    dueIf (s.link.idle == 4 * Config.bitTime + 1 && s.link.asm != .hunt) .linkIdleTimeout ++
    dueIf (frameDone s) .frameSent ++ dueIf (mayBegin s) .transmissionBegin
  else []

/-! ### The measurement clock (R3, R4) -/

/-- One tick of the probe that is measured: the charge counter stops at 4095 (R3, R4). -/
def tickProbe (s : State) (p : ProbeId) : State :=
  onProbe s p fun q => match q.phase with
    | .discharge => { q with ticks := q.ticks + 1 }
    | .charge => { q with charge := min 4095 (q.charge + 1) }
    | .idle => q

/-- The command that a tick brings: Nd ticks of DISCHARGE, or the tick that would pass 4095 (R3, R5). -/
def dueProbe (s : State) (p : ProbeId) : List Instr :=
  let q := s.probes.get p
  match q.phase with
  | .discharge => dueIf (decide ((probeCfg s.cfg p).nd ≤ q.ticks + 1)) .dischargeComplete
  | .charge => dueIf (decide (4095 ≤ q.charge)) .probeOverflow
  | .idle => []

/-- The probe that is measured. -/
def measuring (s : State) : Option ProbeId :=
  if s.probes.a.phase != .idle then some .a else if s.probes.b.phase != .idle then some .b else none

/-! ### The PWM clock (R139) -/

/-- One PWM clock; the step from 4095 to 0 is the command of the period boundary (R139). -/
def tickPwm (s : State) : State := s.onLamps fun l => { l with period := min 4095 (l.period + 1) }

/-- The commands that a PWM clock brings: a period boundary, or the edges of channels (R139). -/
def duePwm (s : State) : List Instr :=
  if s.lamps.period = 4095 then [.pwmPeriodBoundary]
  else [ChannelId.ch0, .ch1, .ch2, .ch3].flatMap fun ch =>
    dueIf (channelEdge s ch == some (s.lamps.period + 1)) (.activeCountReached ch)

/-! ### One period of Fref -/

/-- A divider's next count and whether its clock ticks. A count that a larger divider has left behind starts anew,
so that the clock runs at its rate from the first period on (R3, R21, R139, log 3). -/
def divide (n limit step : Nat) : Nat × Bool :=
  let n := if limit ≤ n then 0 else n
  if limit ≤ n + step then (n + step - limit, true) else (n + step, false)

/-- The clocks that tick in this period: ms, link, probe, PWM. -/
structure Ticks where
  ms    : Bool
  link  : Bool
  probe : Option ProbeId
  pwm   : Bool
deriving DecidableEq, Repr

/-- The divider of the measurement clock: Nsel of the probe that is measured. -/
def probeDivider (s : State) : Nat :=
  match measuring s with
  | some p => nsel (probeCfg s.cfg p)
  | none => 1

/-- The link sample clock is used: in RUN, and while a stopped character is driven to its end (R21, R40). -/
def linkClocked (s : State) : Bool := inRun s || s.link.tail.isSome

/-- The dividers after one period (R3, R21, R139). -/
def nextDividers (s : State) : Dividers :=
  { msTenths := (divide s.div.msTenths 36864 10).1
    link := if linkClocked s then (divide s.div.link (linkDivider s.cfg) 1).1 else 0
    probe := if (measuring s).isSome then (divide s.div.probe (probeDivider s) 1).1 else 0
    pwm := if s.lamps.pwmRunning then (divide s.div.pwm s.cfg.np 1).1 else 0 }

/-- The clocks that tick in this period. -/
def ticksOf (s : State) : Ticks :=
  { ms := (divide s.div.msTenths 36864 10).2
    link := linkClocked s && (divide s.div.link (linkDivider s.cfg) 1).2
    probe := if (divide s.div.probe (probeDivider s) 1).2 then measuring s else none
    pwm := s.lamps.pwmRunning && (divide s.div.pwm s.cfg.np 1).2 }

/-- The EEPROM read goes on (R175). -/
def tickRead (l : Loader) : Loader :=
  if l.reading then { l with periods := min Config.readPeriods (l.periods + 1) } else l

/-- Put a command into a list by its rank. -/
def insertRanked (rank : Instr → Nat) (c : Instr) : List Instr → List Instr
  | [] => [c]
  | x :: rest => if rank c < rank x then c :: x :: rest else x :: insertRanked rank c rest

/-- The due commands in the order that a rank gives. -/
def ranked (rank : Instr → Nat) (l : List Instr) : List Instr := l.foldr (insertRanked rank) []

/-- The measurement clock's part of a period. -/
def tickProbeClock (s : State) : Option ProbeId → State × List Instr
  | some p => (tickProbe s p, dueProbe s p)
  | none => (s, [])

/-- The counts of one period, and the commands that fall due in it. -/
def period (s : State) : State × List Instr :=
  let t := ticksOf s
  let s0 := (s.onDiv fun _ => nextDividers s).onLoader tickRead
  let pr := tickProbeClock s0 t.probe
  let s1 := pr.1
  let s2 := if t.pwm then tickPwm s1 else s1
  let dPwm := if t.pwm then duePwm s1 else []
  let s3 := if t.link then tickLink s2 else s2
  let dLink := if t.link then dueLink s3 else []
  let s4 := if t.ms then tickMs s3 else s3
  let dMs := if t.ms then dueMs s4 else []
  (s4, pr.2 ++ dPwm ++ dLink ++ dMs)

/-- Commands that fall in one period are queued, in a free order where there are several (log 3). -/
def queueDue (s : State) (due : List Instr) : State :=
  match due with
  | [] => s
  | [c] => s.withPending (s.pending ++ [c])
  | _ => (s.withPending (s.pending ++ ranked (Config.freeRank s.free) due)).withFree (s.free + 1)

/-- One period of Fref (log 3). -/
def tick (s : State) : State :=
  let r := period s
  queueDue r.1 r.2

end Sys2Proof.Machine
end

