-- ==== Sys2Proof/Machine/Dispatch.lean ====
section
/-! DEFINITION. The meaning of every command: one arm per constructor of Instr, in the table's order. -/

namespace Sys2Proof.Machine

def exec (i : Instr) (s : State) : Host.Outcome State Fault Refusal :=
  match i with
  | .coldReset => Sys2Proof.Machine.execColdReset s
  | .resetRelease => Sys2Proof.Machine.execResetRelease s
  | .imageReadComplete image => Sys2Proof.Machine.execImageReadComplete image s
  | .sampleTimerExpiry => Sys2Proof.Machine.execSampleTimerExpiry s
  | .dischargeComplete => Sys2Proof.Machine.execDischargeComplete s
  | .probeTrip captured => Sys2Proof.Machine.execProbeTrip captured s
  | .probeOverflow => Sys2Proof.Machine.execProbeOverflow s
  | .historyTimerExpiry => Sys2Proof.Machine.execHistoryTimerExpiry s
  | .linkIdleTimeout => Sys2Proof.Machine.execLinkIdleTimeout s
  | .badCharacter => Sys2Proof.Machine.execBadCharacter s
  | .lengthByteError n => Sys2Proof.Machine.execLengthByteError n s
  | .frameRejected frame => Sys2Proof.Machine.execFrameRejected frame s
  | .statusArrival sender payload => Sys2Proof.Machine.execStatusArrival sender payload s
  | .claimArrival sender payload => Sys2Proof.Machine.execClaimArrival sender payload s
  | .busyArrival sender payload => Sys2Proof.Machine.execBusyArrival sender payload s
  | .doneArrival sender payload => Sys2Proof.Machine.execDoneArrival sender payload s
  | .reportArrival sender payload => Sys2Proof.Machine.execReportArrival sender payload s
  | .orderIgnored sender target code arg => Sys2Proof.Machine.execOrderIgnored sender target code arg s
  | .unknownOrder code arg => Sys2Proof.Machine.execUnknownOrder code arg s
  | .query arg => Sys2Proof.Machine.execQuery arg s
  | .describe arg => Sys2Proof.Machine.execDescribe arg s
  | .counters arg => Sys2Proof.Machine.execCounters arg s
  | .gateClose arg => Sys2Proof.Machine.execGateClose arg s
  | .gateOpen arg => Sys2Proof.Machine.execGateOpen arg s
  | .gateHold arg => Sys2Proof.Machine.execGateHold arg s
  | .gateRelease arg => Sys2Proof.Machine.execGateRelease arg s
  | .pumpInhibit arg => Sys2Proof.Machine.execPumpInhibit arg s
  | .pumpRelease arg => Sys2Proof.Machine.execPumpRelease arg s
  | .clearFault arg => Sys2Proof.Machine.execClearFault arg s
  | .clearFaultGate => Sys2Proof.Machine.execClearFaultGate s
  | .lampTest arg => Sys2Proof.Machine.execLampTest arg s
  | .restart arg => Sys2Proof.Machine.execRestart arg s
  | .transmissionBegin => Sys2Proof.Machine.execTransmissionBegin s
  | .collision => Sys2Proof.Machine.execCollision s
  | .frameSent => Sys2Proof.Machine.execFrameSent s
  | .statusPeriodExpiry => Sys2Proof.Machine.execStatusPeriodExpiry s
  | .stageHoldExpiry => Sys2Proof.Machine.execStageHoldExpiry s
  | .supplySenseChange line asserted => Sys2Proof.Machine.execSupplySenseChange line asserted s
  | .budgetTimerExpiry => Sys2Proof.Machine.execBudgetTimerExpiry s
  | .listenInExpiry => Sys2Proof.Machine.execListenInExpiry s
  | .claimWindowExpiry => Sys2Proof.Machine.execClaimWindowExpiry s
  | .surgeTimerExpiry => Sys2Proof.Machine.execSurgeTimerExpiry s
  | .holderTimeout station => Sys2Proof.Machine.execHolderTimeout station s
  | .runSenseChange pump present => Sys2Proof.Machine.execRunSenseChange pump present s
  | .runSenseTimerExpiry pump => Sys2Proof.Machine.execRunSenseTimerExpiry pump s
  | .thermalInputChange pump asserted => Sys2Proof.Machine.execThermalInputChange pump asserted s
  | .thermalReleaseExpiry pump => Sys2Proof.Machine.execThermalReleaseExpiry pump s
  | .runLimitExpiry pump => Sys2Proof.Machine.execRunLimitExpiry pump s
  | .restLimitExpiry pump => Sys2Proof.Machine.execRestLimitExpiry pump s
  | .exerciseDue pump => Sys2Proof.Machine.execExerciseDue pump s
  | .exerciseTimeExpiry pump => Sys2Proof.Machine.execExerciseTimeExpiry pump s
  | .floatAsserted => Sys2Proof.Machine.execFloatAsserted s
  | .floatReleased => Sys2Proof.Machine.execFloatReleased s
  | .floatTimerExpiry => Sys2Proof.Machine.execFloatTimerExpiry s
  | .floatSurgeExpiry pump => Sys2Proof.Machine.execFloatSurgeExpiry pump s
  | .pwmPeriodBoundary => Sys2Proof.Machine.execPwmPeriodBoundary s
  | .daylightChange asserted => Sys2Proof.Machine.execDaylightChange asserted s
  | .flashPhaseExpiry => Sys2Proof.Machine.execFlashPhaseExpiry s
  | .lampTestExpiry => Sys2Proof.Machine.execLampTestExpiry s
  | .loopChange loop occupied => Sys2Proof.Machine.execLoopChange loop occupied s
  | .stuckTimerExpiry loop => Sys2Proof.Machine.execStuckTimerExpiry loop s
  | .dwellTimerLimit => Sys2Proof.Machine.execDwellTimerLimit s
  | .warningTimerExpiry => Sys2Proof.Machine.execWarningTimerExpiry s
  | .blockedTimerExpiry => Sys2Proof.Machine.execBlockedTimerExpiry s
  | .travelTimerExpiry => Sys2Proof.Machine.execTravelTimerExpiry s
  | .reopenTimerLimit => Sys2Proof.Machine.execReopenTimerLimit s
  | .localSurgeExpiry => Sys2Proof.Machine.execLocalSurgeExpiry s
  | .downLimitChange asserted => Sys2Proof.Machine.execDownLimitChange asserted s
  | .upLimitChange asserted => Sys2Proof.Machine.execUpLimitChange asserted s
  | .keyChange position => Sys2Proof.Machine.execKeyChange position s
  | .pbLower => Sys2Proof.Machine.execPbLower s
  | .pbRaise => Sys2Proof.Machine.execPbRaise s
  | .pbStop => Sys2Proof.Machine.execPbStop s
  | .goodCharacter b => Sys2Proof.Machine.execGoodCharacter b s
  | .startBit => Sys2Proof.Machine.execStartBit s
  | .lineReturnToMark => Sys2Proof.Machine.execLineReturnToMark s
  | .activeCountReached channel => Sys2Proof.Machine.execActiveCountReached channel s

end Sys2Proof.Machine
end

