-- ==== Sys2Proof/Safety.lean ====
section
/-! DEFINITION. What a safe station is: the invariants that the statements of this package are about, and the
vocabulary they share. -/

namespace Sys2Proof.Machine

/-! ### RESET_N (R175, R180) -/

/-- While RESET_N is held the station stands in START and reads no image. -/
def heldInStart (s : State) : Prop := s.loader.resetHeld = true → s.mode = .start ∧ s.loader.reading = false

/-! ### The gate (R152) -/

/-- The motor drives only in a moving state of a PORTAL station in RUN, and drives DOWN only with the loops clear
(R152). The other clauses are what makes this inductive: a lowering waits for clear loops, a dwell time that runs or
stands at its limit means clear loops (R153), a gate stopped by loss has its motor off (R166), under the LOCAL key the
state is a tracking state (R164), a BAY station's gate stands at its reset value (log 28), and a held RESET_N means
START. -/
structure GateInv (s : State) : Prop where
  down : s.gate.motor = .down → gateAtWork s = true ∧ s.gate.state = .lowering ∧ loopsClear s = true
  up : s.gate.motor = .up → gateAtWork s = true ∧ s.gate.state = .raising
  waiting : gateAtWork s = true → s.gate.state = .lowerPending → loopsClear s = true
  dwelling : gateAtWork s = true → s.gate.dwell.phase = .running ∨ s.gate.dwell.phase = .atLimit →
    loopsClear s = true
  stopped : s.gate.stoppedByLoss = true →
    s.gate.motor = .off ∧ (s.gate.state = .lowering ∨ s.gate.state = .raising)
  tracking : gateAtWork s = true → keyLocal s = true →
    s.gate.stoppedByLoss = false ∧
    (s.gate.state = .atOpen ∨ s.gate.state = .closed ∨ s.gate.state = .lowering ∨ s.gate.state = .raising ∨
      s.gate.state = .lowerPaused ∨ s.gate.state = .fault)
  bay : inRun s = true → s.cfg.portal = false → s.gate.state = .atOpen
  held : heldInStart s

/-! ### The start table (R100) -/

/-- How many entries carry the served mark. -/
def servedCount (s : State) : Nat := (tieOrder.filter fun r => (entryOf s r).served).length

/-- At most one entry is served, and one is served exactly while the own claim state is not IDLE; an entry that is
served is not pending (R100). -/
structure ServedInv (s : State) : Prop where
  atMostOne : servedCount s ≤ 1
  idleIffNone : s.arb.claim = .idle ↔ servedCount s = 0
  notPending : ∀ r, (entryOf s r).served = true → (entryOf s r).pending = false

/-! ### The claim list (section 6.5) -/

/-- One record comes before another in the order of the list. -/
def inOrder (x y : ClaimRecord) : Prop :=
  x.urgency < y.urgency ∨ (x.urgency = y.urgency ∧ x.station < y.station)

/-- The claim list is ordered by urgency and station number, holds one record per station, and holds no record of a
station outside the roster or of this station; outside RUN it is empty (6.5, R116, R117), and a held RESET_N means
START. -/
structure ClaimsInv (s : State) : Prop where
  ordered : s.arb.claims.Pairwise inOrder
  onePerStation : (s.arb.claims.map ClaimRecord.station).Nodup
  peersOnly : ∀ c ∈ s.arb.claims, c.station < 8 ∧ inRoster s.cfg c.station = true ∧ c.station ≠ s.cfg.station
  urgencies : ∀ c ∈ s.arb.claims, c.urgency ≤ 7
  onlyInRun : inRun s = false → s.arb.claims = []
  held : heldInStart s

/-! ### The peer table (R46) -/

/-- The station numbers of the roster other than the own one, in order. -/
def peerNumbers (c : StationConfig) : List Nat := (rosterList c).filter fun k => k != c.station

/-- In RUN the peer table holds one entry for each peer, in the order of the station numbers (R46). -/
def PeersInv (s : State) : Prop :=
  inRun s = true → s.peers.entries.map PeerEntry.station = peerNumbers s.cfg

/-! ### Bounds -/

/-- The collections and counts keep within the sizes that the figures of the manual give them, and in RUN the lamp
scale within s_min..256 (R86, R88, R91). -/
structure BoundsInv (s : State) : Prop where
  windowA : s.probes.a.window.length ≤ 4
  windowB : s.probes.b.window.length ≤ 4
  ring : s.probes.ring.length ≤ 16
  runA : s.probes.a.runCount ≤ 2
  runB : s.probes.b.runCount ≤ 2
  blanked : s.probes.blanked ≤ 65535
  rxOk : s.link.counters.rxOk ≤ 65535
  crcErr : s.link.counters.crcErr ≤ 65535
  lengthErr : s.link.counters.lengthErr ≤ 65535
  unknownKind : s.link.counters.unknownKind ≤ 65535
  foreign : s.link.counters.foreign ≤ 65535
  fragment : s.link.counters.fragment ≤ 65535
  collision : s.link.counters.collision ≤ 65535
  txDropped : s.link.counters.txDropped ≤ 65535
  seqGap : s.peers.seqGap ≤ 65535
  seq : s.peers.seq ≤ 255
  headroom : -4095 ≤ s.head.h ∧ s.head.h ≤ 4095
  scale : inRun s = true → s.cfg.sMin ≤ s.head.scale ∧ s.head.scale ≤ 256

/-! ### The requests and the relief (R92, R95, R116, R117, R128) -/

/-- An entry holds a request only while it is served (Figure 6-2, R95). -/
def heldOnlyServed (s : State) : Prop := ∀ r, (entryOf s r).served = false → (entryOf s r).held = none

/-- Outside RUN the own claim state is IDLE and every entry stands at its reset value, but for its service mask, so
that none is served (R92, R116, R117). -/
def tableAtRest (s : State) : Prop :=
  inRun s = false → s.arb.claim = .idle ∧ ∀ r, entryOf s r = { Entry.atReset with mask := (entryOf s r).mask }

/-- Relief due stands only on a RUNNING pump whose reason is DEMAND or HANDOVER (R128). -/
def reliefOnlyRunning (s : State) : Prop :=
  ∀ p, (pumpOf s p).relief = true →
    (pumpOf s p).state = .running ∧ ((pumpOf s p).reason = some .demand ∨ (pumpOf s p).reason = some .handover)

/-- Held requests, the start table outside RUN and relief due stand only where the manual puts them; a held RESET_N
means START. -/
structure RequestsInv (s : State) : Prop where
  requests : heldOnlyServed s
  atRest : tableAtRest s
  relief : reliefOnlyRunning s
  held : heldInStart s

/-- The request that a pump in PENDING or CLAIMING waits for: the one that its entry carries, or the one that the
entry holds where it is served on after its cancellation (R95, R106). -/
def waitsFor (s : State) (p : PumpId) : Option Request :=
  let e := entryOf s (pumpRequester p)
  if e.served then (if s.arb.cancelHeld then e.held else e.request)
  else if e.pending then e.request else none

/-- A pump and its start-table entry agree (R122, R123, log 18): an entry is pending for a pump in PENDING alone; one
that is served and not cancelled has its pump in CLAIMING, or in SURGING once the claim is in SURGE; the reason of a
pump in PENDING or CLAIMING is that of the request it waits for. A claim is cancelled and held in CLAIM_QUEUED alone
(R106), and a float surge timer runs only in a surge by float override (R131). -/
structure PumpRequestsInv (s : State) : Prop where
  pending : ∀ p, (entryOf s (pumpRequester p)).pending = true → (pumpOf s p).state = .pending
  served : ∀ p, (entryOf s (pumpRequester p)).served = true → s.arb.cancelHeld = false →
    if s.arb.claim = .surge then (pumpOf s p).state = .surging ∧ (pumpOf s p).reason ≠ some .float
    else (pumpOf s p).state = .claiming
  claiming : ∀ p, (pumpOf s p).state = .claiming →
    (entryOf s (pumpRequester p)).served = true ∧ s.arb.cancelHeld = false
  reason : ∀ p, (pumpOf s p).state = .pending ∨ (pumpOf s p).state = .claiming →
    ∃ q, waitsFor s p = some q ∧ (pumpOf s p).reason = some (pumpReasonOf (some q.reason))
  cancelled : s.arb.cancelHeld = true → s.arb.claim = .claimQueued
  floatSurge : ∀ p, (pumpOf s p).floatSurge.phase = .running →
    (pumpOf s p).state = .surging ∧ (pumpOf s p).reason = some .float

/-! ### Frames as commands (R25, R28, R30) -/

/-- The command that an order of this station is, by its code (Figure 10-2). -/
def orderCommand (code : Byte) (arg : Half) : Instr :=
  match code.toNat with
  | 1 => .query arg
  | 2 => .describe arg
  | 3 => .counters arg
  | 4 => .gateClose arg
  | 5 => .gateOpen arg
  | 6 => .gateHold arg
  | 7 => .gateRelease arg
  | 8 => .pumpInhibit arg
  | 9 => .pumpRelease arg
  | 10 => if arg = 3 then .clearFaultGate else .clearFault arg
  | 11 => .lampTest arg
  | 12 => .restart arg
  | _ => .unknownOrder code arg

/-- The command that a complete frame is, by its judgement and its kind (R28, R30, R170). -/
def frameCommand (s : State) (f : RxFrame) : Instr :=
  if verdict s.cfg f ≠ .accepted then .frameRejected f
  else match frameKind f with
    | 1 => .statusArrival (frameSender f) f.payload
    | 2 => .claimArrival (frameSender f) f.payload
    | 3 => .busyArrival (frameSender f) f.payload
    | 4 => .doneArrival (frameSender f) f.payload
    | 5 =>
        if orderIsOwn s (frameSender f) (payloadByte f.payload 0) then
          orderCommand (payloadByte f.payload 1) (BitVec.ofNat 16 (payloadHalf f.payload 2))
        else .orderIgnored (frameSender f) (payloadByte f.payload 0) (payloadByte f.payload 1)
          (BitVec.ofNat 16 (payloadHalf f.payload 2))
    | _ => .reportArrival (frameSender f) f.payload

/-! ### Commands that need RUN -/

/-- The commands that act in RUN alone (R2, R15, R39, R41, R66, R83, R92, R170, log 1). START_BIT and
LINE_RETURN_TO_MARK are not among them: outside RUN the level of the line is followed (log 30). -/
def needsRun : Instr → Bool
  | .sampleTimerExpiry | .dischargeComplete | .probeTrip _ | .probeOverflow | .historyTimerExpiry => true
  | .linkIdleTimeout | .badCharacter | .lengthByteError _ | .goodCharacter _ => true
  | .startBit | .lineReturnToMark => false
  | .frameRejected _ | .statusArrival _ _ | .claimArrival _ _ | .busyArrival _ _ | .doneArrival _ _
  | .reportArrival _ _ | .orderIgnored _ _ _ _ | .unknownOrder _ _ => true
  | .query _ | .describe _ | .counters _ | .gateClose _ | .gateOpen _ | .gateHold _ | .gateRelease _
  | .pumpInhibit _ | .pumpRelease _ | .clearFault _ | .clearFaultGate | .lampTest _ | .restart _ => true
  | .transmissionBegin | .collision | .frameSent | .statusPeriodExpiry | .stageHoldExpiry => true
  | .budgetTimerExpiry | .listenInExpiry | .claimWindowExpiry | .surgeTimerExpiry | .holderTimeout _ => true
  | .runLimitExpiry _ | .restLimitExpiry _ | .exerciseDue _ | .exerciseTimeExpiry _ | .lampTestExpiry => true
  | .stuckTimerExpiry _ | .dwellTimerLimit | .warningTimerExpiry | .blockedTimerExpiry | .travelTimerExpiry
  | .reopenTimerLimit | .localSurgeExpiry => true
  | .coldReset | .resetRelease | .imageReadComplete _ | .supplySenseChange _ _ => false
  | .runSenseChange _ _ | .runSenseTimerExpiry _ | .thermalInputChange _ _ | .thermalReleaseExpiry _ => false
  | .floatAsserted | .floatReleased | .floatTimerExpiry | .floatSurgeExpiry _ => false
  | .pwmPeriodBoundary | .daylightChange _ | .flashPhaseExpiry | .activeCountReached _ => false
  | .loopChange _ _ | .downLimitChange _ | .upLimitChange _ | .keyChange _ => false
  | .pbLower | .pbRaise | .pbStop => false

/-! ### What a reading does to a probe (R6, R9-R13) -/

/-- The depth of an OK reading with tick value T (R9). -/
def depthOfTicks (c : ProbeCfg) (ticks : Nat) : Nat :=
  if ticks ≤ c.d0 then 0 else if c.d1 ≤ ticks then c.len else (ticks - c.d0) * c.len / (c.d1 - c.d0)

/-- An OK or OVER reading of a depth (R10, R12): the window takes the depth, four at most, and the depth, the fault
state and the run count follow. -/
structure DepthTaken (d : Nat) (q r : Probe) : Prop where
  window : r.window = (q.window ++ [d]).drop (q.window.length - 3)
  inOk : q.faulted = false →
    r.faulted = false ∧ r.runCount = 0 ∧ r.depth = some (r.window.sum / r.window.length)
  recovering : q.faulted = true → q.runCount < 2 →
    r.faulted = true ∧ r.runCount = q.runCount + 1 ∧ r.depth = q.depth
  recovered : q.faulted = true → 2 ≤ q.runCount →
    r.faulted = false ∧ r.runCount = 0 ∧ r.depth = some (r.window.sum / r.window.length)

/-- An OPEN reading (R11, R12): the third in a row makes the fault, and in the fault it begins the recovery again. -/
structure OpenTaken (q r : Probe) : Prop where
  counted : q.faulted = false → q.runCount < 2 →
    r.faulted = false ∧ r.runCount = q.runCount + 1 ∧ r.window = q.window ∧ r.depth = q.depth
  fault : q.faulted = false → 2 ≤ q.runCount →
    r.faulted = true ∧ r.runCount = 0 ∧ r.window = [] ∧ r.depth = none
  inFault : q.faulted = true → r.faulted = true ∧ r.runCount = 0 ∧ r.window = [] ∧ r.depth = q.depth

/-- The reading of a trip at a captured count (R5, R6). -/
structure ReadingTaken (c : ProbeCfg) (captured : Nat) (q r : Probe) : Prop where
  phase : r.phase = .idle
  charge : r.charge = captured
  raw : r.raw = captured - (4095 - c.rld)
  tooFew : captured - (4095 - c.rld) < c.tOpenMin → r.status = .openCircuit ∧ OpenTaken q r
  enough : c.tOpenMin ≤ captured - (4095 - c.rld) →
    r.status = .ok ∧ DepthTaken (depthOfTicks c (captured - (4095 - c.rld))) q r

/-! ### The stage (R63-R67) -/

/-- Conditions 3 and 4 of a descent (R65), on the reports of a state. -/
def mayDescend (u : State) : Prop :=
  (∃ d, deepest u = some d ∧
    (let threshold := match u.stage.stage with
      | .flood => u.cfg.tFlood
      | .alert => u.cfg.tAlert
      | .wet => u.cfg.tWet
      | .dry => 0
     if threshold ≤ u.cfg.hy then d = 0 else d < threshold - u.cfg.hy)) ∧
  ¬(u.stage.stage = .alert ∧ riseCondition u = true)

/-- The stage one step down (R65). -/
def oneDown : Stage → Stage
  | .flood => .alert
  | .alert => .wet
  | .wet => .dry
  | .dry => .dry

/-- What an evaluation of the stage makes of the Stage Monitor, on the reports of a state `u` that still holds the
earlier stage (R61, R63-R65); `expiry` says that the hold timer has reached Tsh. -/
structure StageEvaluated (u : State) (expiry : Prop) (m : StageMonitor) : Prop where
  blind : m.blind = (deepest u).isNone
  rise : stageCode u.stage.stage < stageCode (candidateStage u) →
    m.stage = candidateStage u ∧ m.hold = .cleared ∧ m.holdCount = 0
  level : candidateStage u = u.stage.stage → m.stage = u.stage.stage ∧ m.hold = .cleared ∧ m.holdCount = 0
  descent : stageCode (candidateStage u) < stageCode u.stage.stage → expiry ∨ u.stage.hold = .served → mayDescend u →
    m.stage = oneDown u.stage.stage ∧ m.holdCount = 0 ∧
    m.hold = (if stageCode (candidateStage u) < stageCode (oneDown u.stage.stage) then .running else .cleared)
  served : stageCode (candidateStage u) < stageCode u.stage.stage → expiry → ¬mayDescend u →
    m.stage = u.stage.stage ∧ m.hold = .served ∧ m.holdCount = u.cfg.tsh * 1000
  holds : stageCode (candidateStage u) < stageCode u.stage.stage → ¬expiry →
    ¬(u.stage.hold = .served ∧ mayDescend u) →
    m.stage = u.stage.stage ∧ m.hold = (if u.stage.hold = .cleared then .running else u.stage.hold) ∧
    m.holdCount = (if u.stage.hold = .cleared then 0 else u.stage.holdCount)

/-- The demand latches as R119 and R120 judge them from the depths and the stage of a state that holds the earlier
latches. -/
structure LatchesJudged (u : State) (lead lag : Bool) : Prop where
  sumpLow : ∀ d, u.probes.a.depth = some d → d ≤ u.cfg.sStop → lead = false ∧ lag = false
  sumpLag : ∀ d, u.probes.a.depth = some d → u.cfg.sStop < d → u.cfg.sStart2 ≤ d ∨ u.stage.stage = .flood →
    lead = true ∧ lag = true
  sumpLead : ∀ d, u.probes.a.depth = some d → u.cfg.sStop < d → d < u.cfg.sStart2 → u.stage.stage ≠ .flood →
    u.cfg.sStart1 ≤ d → lead = true ∧ lag = u.pumps.lagDemand
  sumpKept : ∀ d, u.probes.a.depth = some d → u.cfg.sStop < d → d < u.cfg.sStart2 → u.stage.stage ≠ .flood →
    d < u.cfg.sStart1 → lead = u.pumps.leadDemand ∧ lag = u.pumps.lagDemand
  roadFlood : u.probes.a.depth = none → u.stage.stage = .flood → lead = true ∧ lag = true
  roadLead : u.probes.a.depth = none → u.stage.stage ≠ .flood →
    u.stage.stage = .alert ∨ (∃ d, u.probes.b.depth = some d ∧ 0 < d) → lead = true ∧ lag = u.pumps.lagDemand
  roadDry : u.probes.a.depth = none → u.stage.stage = .dry ∨ u.stage.stage = .wet → u.probes.b.depth = some 0 →
    lead = false ∧ lag = false
  roadKept : u.probes.a.depth = none → u.stage.stage = .dry ∨ u.stage.stage = .wet → u.probes.b.depth = none →
    lead = u.pumps.leadDemand ∧ lag = u.pumps.lagDemand

/-- A state in which a demand decides what a pump does: no relief is due, no thermal input is asserted, no exercise
is due in DRY, and no run limit or rest is taken at the moment (R126, R128-R130). -/
def pumpsQuiet (u : State) : Prop :=
  ∀ p, (pumpOf u p).relief = false ∧ (u.inputs.thermal.get p).level = false ∧
    (u.stage.stage = .dry → (pumpOf u p).exercise.phase ≠ .atLimit) ∧
    (u.stage.stage = .flood → (pumpOf u p).state ≠ .resting) ∧
    (u.stage.stage ≠ .flood → (u.cfg.pump.get p).a = 0 ∨ (pumpOf u p).run.count < (u.cfg.pump.get p).a * 1000)

/-- The pumps have acted on the calls that stand in `u` (R121, R122); a pump in PENDING may have been served
meanwhile. -/
structure PumpsActed (u t : State) : Prop where
  off : ∀ p, (pumpOf u p).state = .off → called u p = false → (pumpOf t p).state = .off
  offCalled : ∀ p, (pumpOf u p).state = .off → called u p = true →
    ((pumpOf t p).state = .pending ∨ (pumpOf t p).state = .claiming) ∧ (pumpOf t p).reason = some .demand ∧
    ((entryOf u (pumpRequester p)).served = false → (entryOf t (pumpRequester p)).request = some {
      reason := .demand, level := u.cfg.lvPump.get p, trigger := .level })
  pendingCalled : ∀ p, (pumpOf u p).state = .pending → called u p = true →
    ((pumpOf t p).state = .pending ∨ (pumpOf t p).state = .claiming) ∧ (pumpOf t p).reason = some .demand
  pendingExercise : ∀ p, (pumpOf u p).state = .pending → called u p = false → (pumpOf u p).reason = some .exercise →
    ((pumpOf t p).state = .pending ∨ (pumpOf t p).state = .claiming) ∧ (pumpOf t p).reason = some .exercise
  pendingDrops : ∀ p, (pumpOf u p).state = .pending → called u p = false → (pumpOf u p).reason ≠ some .exercise →
    (pumpOf t p).state = .off ∧
    ((entryOf u (pumpRequester p)).served = false → (entryOf t (pumpRequester p)).pending = false)
  surging : ∀ p, (pumpOf u p).state = .surging → (pumpOf t p).state = .surging
  running : ∀ p reason, (pumpOf u p).state = .running → (pumpOf u p).reason = some reason →
    reason = .demand ∨ reason = .handover →
    (called u p = true → (pumpOf t p).state = .running ∧ (pumpOf t p).reason = some reason) ∧
    (called u p = false → (pumpOf t p).state = .off ∧ (pumpOf t p).reason = none)
  exercising : ∀ p, (pumpOf u p).state = .running → (pumpOf u p).reason = some .exercise →
    (pumpOf t p).state = .running ∧
    (pumpOf t p).reason = some (if called u p then .demand else .exercise)
  floating : ∀ p, (pumpOf u p).state = .running → (pumpOf u p).reason = some .float → u.inputs.float.level = true →
    (pumpOf t p).state = .running ∧ (pumpOf t p).reason = some .float
  out : ∀ p, (pumpOf u p).state = .resting ∨ (pumpOf u p).state = .fault ∨ (pumpOf u p).state = .inhibited →
    (pumpOf t p).state = (pumpOf u p).state

/-- A change of the stage has been handed on (R42, R67, R68, R96, R119, R120, R143, R154, R160, R161): `s` before the
command, `u` before the hand-off with the new stage in it, `t` after the command. -/
structure StageHandedOn (s u t : State) : Prop where
  status : t.link.slots.status = some 0
  masks : ∀ r, masked t r = true → (entryOf t r).budgetHeld = false
  latches : LatchesJudged u t.pumps.leadDemand t.pumps.lagDemand
  warning : t.lamps.warning = warningCondition t
  closes : s.cfg.portal = true → s.inputs.key.level = false → t.stage.stage = .flood →
    (s.gate.state = .atOpen → s.cfg.autoClose = true → t.gate.state = .warning) ∧
    (s.gate.state = .raisePending ∨ s.gate.state = .raising → t.gate.state = .warning) ∧
    (s.gate.state = .raising → t.gate.motor = .off)
  reopen : s.cfg.portal = true → s.inputs.key.level = false → s.gate.state = .closed →
    t.gate = { s.gate with
      reopen :=
        if t.stage.stage = .alert ∨ t.stage.stage = .flood then .cleared
        else if stageCode s.stage.stage < stageCode t.stage.stage ∨ s.stage.stage = .alert ∨ s.stage.stage = .flood
        then .fromZero
        else s.gate.reopen }
  leaves : s.cfg.portal = true → s.inputs.key.level = false →
    s.gate.state = .warning ∨ s.gate.state = .holding ∨ s.gate.state = .lowerPending →
    t.gate.state =
      if s.gate.travel.count = 0 ∧ t.stage.stage ≠ .flood ∧ s.gate.closeOrder = false ∧ s.gate.holdClosed = false
      then (if s.inputs.limUp.level then .atOpen else .raisePending)
      else s.gate.state
  still : s.cfg.portal = false ∨ s.inputs.key.level = true ∨ s.gate.state = .lowering ∨
    s.gate.state = .lowerPaused ∨ s.gate.state = .fault ∨
    (s.gate.state = .atOpen ∧ ¬(t.stage.stage = .flood ∧ s.cfg.autoClose = true)) ∨
    ((s.gate.state = .raisePending ∨ s.gate.state = .raising) ∧ t.stage.stage ≠ .flood) → t.gate = s.gate

/-- An evaluation has been made on the reports of a state `u`, and handed on where it changed the stage (R63-R67). -/
structure StageFollows (s u : State) (expiry : Prop) (t : State) : Prop where
  evaluated : StageEvaluated u expiry t.stage
  changed : t.stage.stage ≠ u.stage.stage → StageHandedOn s { u with stage := t.stage } t

/-- What the completion of a measurement leaves alone (R2, R13): the other probe, but for the start of its own
measurement; every block, where the probe's depth has not changed; the blocks that a depth does not reach, in any
case. A roadway depth that has changed evaluates the stage (R13, R66), and a changed depth judges the demand latches
where they rest on it (R119, R120). -/
structure MeasurementFrame (p : ProbeId) (s t : State) : Prop where
  probes : t.probes = { s.probes with a := t.probes.a, b := t.probes.b }
  nextB : p = .a → t.probes.b = (if s.cfg.probeB.enable then
    { s.probes.b with phase := .discharge, ticks := 0, blank := false } else s.probes.b)
  keptA : p = .b → t.probes.a = s.probes.a
  steady : (t.probes.get p).depth = (s.probes.get p).depth → t = { s with probes := t.probes }
  sump : p = .a → t = { s with
    probes := t.probes, pumps := t.pumps, arb := t.arb, link := { s.link with slots := t.link.slots },
    head := { s.head with h := t.head.h } }
  roadway : p = .b → t = { s with
    probes := t.probes, stage := t.stage, gate := t.gate, lamps := t.lamps, pumps := t.pumps, arb := t.arb,
    link := { s.link with slots := t.link.slots }, head := { s.head with h := t.head.h } }
  stage : p = .b → (t.probes.get p).depth ≠ (s.probes.get p).depth →
    StageFollows s { s with probes := t.probes } False t
  latches : (t.probes.get p).depth ≠ (s.probes.get p).depth → p = .a ∨ s.probes.a.depth = none →
    LatchesJudged { s with probes := t.probes, stage := t.stage } t.pumps.leadDemand t.pumps.lagDemand

/-! ### What an accepted frame does to the link -/

/-- The Link Controller once a frame has been accepted: the assembler is back in HUNT, the idle time restarts (unless
this station's own frame has begun, log 26) and RX_OK counts the frame (R24, R25, R30, R31). -/
def heardLink (l : Link) : Link :=
  { l with
    asm := .hunt
    buffer := { header := none, length := none, payload := [], crc := [] }
    rx := .look
    idle := 0
    idleCounting := l.onLine.isNone && l.tail.isNone
    counters := { l.counters with rxOk := min 65535 (l.counters.rxOk + 1) } }

/-! ### Access to the line (R34, R37) -/

/-- The access gap of a frame with its failed attempts, in bit times: the base of its class (Figure 2-4), the station
number, and the backoff of a retry (R34, R37). -/
def gapOf (c : StationConfig) (k : TxKind) (attempts : Nat) : Nat :=
  (match k with
    | .claim | .busy | .done => 10
    | .status => 20
    | .report => 30) + c.station + (if attempts = 0 then 0 else (c.station + 1) * 8)

/-- A frame is the one that is sent next: its slot holds it, and no slot before it in the order does (R34). -/
abbrev sendsNext (l : Link) (k : TxKind) (attempts : Nat) : Prop :=
  l.slots.get k = some attempts ∧
  ∀ j ∈ [TxKind.claim, .busy, .done, .status, .report].takeWhile (· != k), l.slots.get j = none

/-- The line idle time is at or beyond the gap of a frame, and the station drives nothing (R24, R34, R40). -/
abbrev gapPassed (c : StationConfig) (l : Link) (k : TxKind) (attempts : Nat) : Prop :=
  l.onLine = none ∧ l.tail = none ∧ l.idleCounting = true ∧ gapOf c k attempts * 16 ≤ l.idle

/-! ### A pump in FAULT (R125-R127) -/

/-- The record of a pump that has entered FAULT with a cause. -/
def faultedPump (cause : PumpCause) : Pump :=
  { state := .fault, reason := none, cause := some cause, runPhase := .run, run := .cleared, relief := false,
    runSense := .cleared, thermal := .cleared, exercise := .cleared, floatSurge := .cleared }

/-! ### An order that has been answered (R170) -/

/-- The report record holds the order with its result and data, and a REPORT is queued. -/
def answeredWith (t : State) (code : Byte) (arg : Half) (result : OrderResult) (data : List Byte) : Prop :=
  t.order = some { code := code, arg := arg, result := result, data := data } ∧ t.link.slots.report = some 0

/-- An order that is answered with no effect: its frame is counted, the report record is stored, a REPORT is queued.
-/
def answeredOnly (s : State) (code : Byte) (arg : Half) (result : OrderResult) (data : List Byte) : State :=
  { s with
    link := { heardLink s.link with slots := { s.link.slots with report := some 0 } }
    order := some { code := code, arg := arg, result := result, data := data } }

/-! ### One period of Fref (log 3) -/

/-- What a divider has counted towards its next tick; a count that a larger divider has left behind counts no more. -/
def leftOver (count limit : Nat) : Nat := if limit ≤ count then 0 else count

/-- A ms ends in this period: 36864 tenths of a period make one (00_scope.md, Conventions). -/
abbrev msEnds (s : State) : Prop := 36864 ≤ leftOver s.div.msTenths 36864 + 10

/-- A link sample clock ends in this period, in RUN or while a stopped character is driven on: 2D + h periods make one
(R21, R40). -/
abbrev linkClockEnds (s : State) : Prop :=
  (s.mode = .run ∨ s.link.tail ≠ none) ∧
  (let n := 2 * s.cfg.divisor + (if s.cfg.halfStep then 1 else 0)
   n ≤ leftOver s.div.link n + 1)

/-- A tick of the measurement clock of a probe ends in this period: Nsel periods make one (R3, R4). -/
abbrev probeTickEnds (s : State) (p : ProbeId) : Prop :=
  (s.probes.get p).phase ≠ .idle ∧ (p = .b → s.probes.a.phase = .idle) ∧
  (let n := 2 ^ (probeCfg s.cfg p).exponent
   n ≤ leftOver s.div.probe n + 1)

/-- A PWM clock ends in this period: Np periods make one (R139). -/
abbrev pwmClockEnds (s : State) : Prop := s.lamps.pwmRunning = true ∧ s.cfg.np ≤ leftOver s.div.pwm s.cfg.np + 1

/-- A filter after one sample: the samples in a row that show the opposite level, eight at most (R1). -/
def sampledOnce (f : Filter) : Filter := { f with opposite := if f.pin = f.level then 0 else min 8 (f.opposite + 1) }

/-- The eighth opposite sample in a row is the one just taken, or stands (R1). -/
abbrev eighthSample (f : Filter) : Prop := f.pin ≠ f.level ∧ 7 ≤ f.opposite

/-- The inputs whose change of level is a command, each with that command (R1). -/
def watchedInputs (i : Inputs) : List (Filter × Instr) :=
  [(i.runSense.p1, .runSenseChange .p1 i.runSense.p1.pin), (i.runSense.p2, .runSenseChange .p2 i.runSense.p2.pin),
   (i.thermal.p1, .thermalInputChange .p1 i.thermal.p1.pin),
   (i.thermal.p2, .thermalInputChange .p2 i.thermal.p2.pin),
   (i.float, if i.float.pin then .floatAsserted else .floatReleased),
   (i.mainsOk, .supplySenseChange .mainsOk i.mainsOk.pin),
   (i.standbyOk, .supplySenseChange .standbyOk i.standbyOk.pin),
   (i.limDown, .downLimitChange i.limDown.pin), (i.limUp, .upLimitChange i.limUp.pin),
   (i.loop.loop1, .loopChange .loop1 i.loop.loop1.pin), (i.loop.loop2, .loopChange .loop2 i.loop.loop2.pin),
   (i.key, .keyChange (if i.key.pin then .localKey else .autoKey)), (i.daylight, .daylightChange i.daylight.pin)]

/-- The pushbuttons, each with the command of its press (R1, R165). -/
def buttonInputs (i : Inputs) : List (Filter × Instr) :=
  [(i.pbLower, .pbLower), (i.pbRaise, .pbRaise), (i.pbStop, .pbStop)]

/-- A pushbutton's filter after one sample: its release is no command and is taken at once (R1, log 24). -/
def buttonSampled (f : Filter) : Filter :=
  if f.level = true ∧ f.pin = false ∧ 7 ≤ f.opposite then { pin := false, level := false, opposite := 0 }
  else sampledOnce f

/-- A timer after one ms. -/
def countedOn (t : Timer) : Timer := if t.phase = .running then { t with count := t.count + 1 } else t

/-- The timers that count in RUN and in FALLBACK, each with its limit in ms, what its expiry asks for beside, and its
command (R125, R126, R131). -/
def sharedTimers (s : State) : List (Timer × Nat × Bool × Instr) :=
  ([PumpId.p1, .p2].flatMap fun p =>
    let q := pumpOf s p
    [(q.runSense, 2000, q.state == .running, Instr.runSenseTimerExpiry p),
     (q.thermal, 60000, q.state == .fault && q.cause == some .thermal, .thermalReleaseExpiry p),
     (q.floatSurge, (s.cfg.pump.get p).tsurge, q.state == .surging, .floatSurgeExpiry p)]) ++
  [(s.pumps.floatTimer, s.cfg.tfl * 1000, true, .floatTimerExpiry)]

/-- The pump timers that expire in RUN alone (R128-R130). -/
def pumpRunTimers (s : State) (p : PumpId) : List (Timer × Nat × Bool × Instr) :=
  let q := pumpOf s p
  let c := s.cfg.pump.get p
  [(q.run, c.a * 1000,
    q.state == .running && (q.reason == some .demand || q.reason == some .handover) && s.stage.stage != .flood &&
      c.a != 0 && !q.relief, .runLimitExpiry p),
   (q.run, c.b * 1000, q.state == .resting, .restLimitExpiry p),
   (q.exercise, c.tex * 3600000, q.state == .off, .exerciseDue p),
   (q.exercise, c.tet * 1000, q.state == .running && q.reason == some .exercise, .exerciseTimeExpiry p)]

/-- The gate's timers (R153, R155, R156, R159-R162, R165). -/
def gateTimers (s : State) : List (Timer × Nat × Bool × Instr) :=
  [((s.gate.stuck.get .loop1).timer, s.cfg.tstuck * 10000, true, .stuckTimerExpiry .loop1),
   ((s.gate.stuck.get .loop2).timer, s.cfg.tstuck * 10000, true, .stuckTimerExpiry .loop2),
   (s.gate.dwell, s.cfg.tclear * 1000, true, .dwellTimerLimit),
   (s.gate.warning, s.cfg.tw * 1000, true, .warningTimerExpiry),
   (s.gate.blocked, s.cfg.tblocked * 10000, true, .blockedTimerExpiry),
   (s.gate.travel, s.cfg.ttravel * 1000, true, .travelTimerExpiry),
   (s.gate.reopen, s.cfg.tro * 15000, true, .reopenTimerLimit),
   (s.gate.localSurge, s.cfg.tgsurge, true, .localSurgeExpiry)]

/-- The timers that count in RUN alone (R2, R15, R41, R83, R107, R110, R147). -/
def runTimers (s : State) : List (Timer × Nat × Bool × Instr) :=
  [(s.probes.sampleTimer, s.cfg.ts * 100, true, .sampleTimerExpiry),
   (s.probes.historyTimer, s.cfg.th * 1000, true, .historyTimerExpiry),
   (s.peers.timer, s.cfg.tstat * 50, true, .statusPeriodExpiry),
   (s.head.timer, s.cfg.tstat * 50, true, .budgetTimerExpiry),
   (s.lamps.test, 10000, true, .lampTestExpiry),
   (s.arb.window, effectiveWindow s.cfg, true, .claimWindowExpiry)] ++
  (match servedOf s with
    | some r => [(s.arb.surge, surgeTime s.cfg r, true, .surgeTimerExpiry)]
    | none => []) ++
  gateTimers s ++ pumpRunTimers s .p1 ++ pumpRunTimers s .p2

/-- A ms that ends samples every input and queues the changes of level that the sample brings (R1). -/
structure InputsSampled (s t : State) : Prop where
  watched : (watchedInputs t.inputs).map Prod.fst = (watchedInputs s.inputs).map fun x => sampledOnce x.1
  changes : ∀ x ∈ watchedInputs s.inputs, x.2 ∈ t.pending ↔ eighthSample x.1
  buttons : (buttonInputs t.inputs).map Prod.fst = (buttonInputs s.inputs).map fun x => buttonSampled x.1
  presses : ∀ x ∈ buttonInputs s.inputs, x.2 ∈ t.pending ↔ x.1.level = false ∧ eighthSample x.1

/-- The pump and lamp timers after one ms. -/
structure SharedTimersCounted (s t : State) : Prop where
  pumps : t.pumps = { s.pumps with pump := t.pumps.pump, floatTimer := countedOn s.pumps.floatTimer }
  pump : ∀ p, pumpOf t p = { pumpOf s p with
    run := countedOn (pumpOf s p).run, runSense := countedOn (pumpOf s p).runSense,
    thermal := countedOn (pumpOf s p).thermal, exercise := countedOn (pumpOf s p).exercise,
    floatSurge := countedOn (pumpOf s p).floatSurge }
  flash : t.lamps.flashCount = s.lamps.flashCount + (if s.lamps.flash = .stopped then 0 else 1)
  test : t.lamps.test = countedOn s.lamps.test
  flashes : .flashPhaseExpiry ∈ t.pending ↔ s.lamps.flash ≠ .stopped ∧
    (if s.mode = .fallback then 1000
     else if s.lamps.flash = .on then s.cfg.flashOn * 10 else s.cfg.flashOff * 10) ≤ s.lamps.flashCount + 1
  due : ∀ x ∈ sharedTimers s, x.2.2.2 ∈ t.pending ↔
    x.2.2.1 = true ∧ x.1.phase = .running ∧ x.2.1 ≤ x.1.count + 1

/-- The other timers after one ms in RUN. -/
structure RunTimersCounted (s t : State) : Prop where
  probes : t.probes.sampleTimer = countedOn s.probes.sampleTimer ∧
    t.probes.historyTimer = countedOn s.probes.historyTimer
  peers : t.peers = { s.peers with timer := countedOn s.peers.timer }
  stage : t.stage = { s.stage with
    holdCount := s.stage.holdCount + (if s.stage.hold = .running then 1 else 0) }
  head : t.head = { s.head with timer := countedOn s.head.timer }
  arb : t.arb = { s.arb with
    window := countedOn s.arb.window, surge := countedOn s.arb.surge,
    listenCount := s.arb.listenCount + (if s.arb.listenIn = .running then 1 else 0),
    claims := s.arb.claims.map fun c => { c with holder := c.holder + 1 } }
  gate : t.gate = { s.gate with
    warning := countedOn s.gate.warning, dwell := countedOn s.gate.dwell, blocked := countedOn s.gate.blocked,
    travel := countedOn s.gate.travel, reopen := countedOn s.gate.reopen,
    localSurge := countedOn s.gate.localSurge, stuck := t.gate.stuck }
  stuck : ∀ l, t.gate.stuck.get l = { s.gate.stuck.get l with timer := countedOn (s.gate.stuck.get l).timer }
  due : ∀ x ∈ runTimers s, x.2.2.2 ∈ t.pending ↔ x.2.2.1 = true ∧ x.1.phase = .running ∧ x.2.1 ≤ x.1.count + 1
  holdDue : .stageHoldExpiry ∈ t.pending ↔ s.stage.hold = .running ∧ s.cfg.tsh * 1000 ≤ s.stage.holdCount + 1
  listenDue : .listenInExpiry ∈ t.pending ↔
    s.arb.listenIn = .running ∧ 3 * (s.cfg.tstat * 50) ≤ s.arb.listenCount + 1
  holderDue : ∀ k, .holderTimeout k ∈ t.pending ↔
    ∃ c ∈ s.arb.claims, c.station = k ∧ effectiveHolder s.cfg ≤ c.holder + 1

/-- A link sample clock counts the idle time and the frame on the line, and queues what comes due (R24, R26, R34, R37,
R38, R40). -/
structure LinkClocked (s t : State) : Prop where
  counts : s.mode = .run → s.link.tail = none → t.link = { s.link with
    idle := if s.link.idleCounting then min 4080 (s.link.idle + 1) else s.link.idle,
    onLine := s.link.onLine.map fun f => { f with position := f.position + 1 } }
  tail : ∀ x, s.link.tail = some x →
    (x.position + 1 < 160 → t.link.tail = some { x with position := x.position + 1 }) ∧
    (160 ≤ x.position + 1 → t.link.tail = none ∧ t.link.idle = 0 ∧
      (t.link.idleCounting = true ↔ s.mode = .run ∧ s.link.rx = .look ∧ s.link.onLine = none))
  begins : .transmissionBegin ∈ t.pending ↔
    s.mode = .run ∧ ∃ k n, sendsNext s.link k n ∧ gapPassed s.cfg t.link k n
  sent : .frameSent ∈ t.pending ↔ s.mode = .run ∧ ∃ f, s.link.onLine = some f ∧ f.bytes.length * 160 ≤ f.position + 1
  timeout : .linkIdleTimeout ∈ t.pending ↔ s.mode = .run ∧ t.link.idle = 65 ∧ s.link.asm ≠ .hunt

/-- A tick of the measurement clock counts the phase of the probe that is measured (R3-R5). -/
structure ProbeTicked (s : State) (p : ProbeId) (t : State) : Prop where
  discharge : (s.probes.get p).phase = .discharge →
    t.probes.get p = { s.probes.get p with ticks := (s.probes.get p).ticks + 1 } ∧
    (.dischargeComplete ∈ t.pending ↔ (probeCfg s.cfg p).nd ≤ (s.probes.get p).ticks + 1) ∧
    .probeOverflow ∉ t.pending
  charge : (s.probes.get p).phase = .charge →
    t.probes.get p = { s.probes.get p with charge := min 4095 ((s.probes.get p).charge + 1) } ∧
    (.probeOverflow ∈ t.pending ↔ 4095 ≤ (s.probes.get p).charge) ∧ .dischargeComplete ∉ t.pending

/-- A PWM clock counts the period, whose step from 4095 to 0 is the command of the boundary, and comes to the edges
of the channels (R139). -/
structure PwmClocked (s t : State) : Prop where
  counts : t.lamps.period = min 4095 (s.lamps.period + 1)
  boundary : .pwmPeriodBoundary ∈ t.pending ↔ s.lamps.period = 4095
  edges : ∀ ch, .activeCountReached ch ∈ t.pending ↔ s.lamps.period ≠ 4095 ∧
    (s.cfg.channel.get ch).role ≠ 0 ∧ 0 < s.lamps.applied.get ch ∧ s.lamps.applied.get ch < 4095 ∧
    (if (s.cfg.channel.get ch).startsInactive then 4096 - s.lamps.applied.get ch else s.lamps.applied.get ch) =
      s.lamps.period + 1

/-- The commands that the station's own clocks bring: changes of filtered inputs, expiries and limits of timers, and
the ends of clocked phases. -/
def clockCommand : Instr → Bool
  | .runSenseChange _ _ | .thermalInputChange _ _ | .floatAsserted | .floatReleased | .supplySenseChange _ _ => true
  | .downLimitChange _ | .upLimitChange _ | .loopChange _ _ | .keyChange _ | .daylightChange _ => true
  | .pbLower | .pbRaise | .pbStop => true
  | .runSenseTimerExpiry _ | .thermalReleaseExpiry _ | .floatSurgeExpiry _ | .floatTimerExpiry => true
  | .flashPhaseExpiry | .lampTestExpiry | .pwmPeriodBoundary | .activeCountReached _ => true
  | .runLimitExpiry _ | .restLimitExpiry _ | .exerciseDue _ | .exerciseTimeExpiry _ => true
  | .sampleTimerExpiry | .historyTimerExpiry | .dischargeComplete | .probeOverflow => true
  | .statusPeriodExpiry | .stageHoldExpiry | .budgetTimerExpiry => true
  | .listenInExpiry | .claimWindowExpiry | .surgeTimerExpiry | .holderTimeout _ => true
  | .stuckTimerExpiry _ | .dwellTimerLimit | .warningTimerExpiry | .blockedTimerExpiry | .travelTimerExpiry
  | .reopenTimerLimit | .localSurgeExpiry => true
  | .linkIdleTimeout | .frameSent | .transmissionBegin => true
  | .coldReset | .resetRelease | .imageReadComplete _ | .probeTrip _ => false
  | .badCharacter | .goodCharacter _ | .startBit | .lineReturnToMark | .collision => false
  | .lengthByteError _ | .frameRejected _ | .statusArrival _ _ | .claimArrival _ _ | .busyArrival _ _
  | .doneArrival _ _ | .reportArrival _ _ | .orderIgnored _ _ _ _ | .unknownOrder _ _ => false
  | .query _ | .describe _ | .counters _ | .gateClose _ | .gateOpen _ | .gateHold _ | .gateRelease _
  | .pumpInhibit _ | .pumpRelease _ | .clearFault _ | .clearFaultGate | .lampTest _ | .restart _ => false

/-! ### How far a command reaches -/

/-- What a pump command leaves alone: everything but the Pump Controller, the start table and the claim, the transmit
slots and the last computed headroom. -/
def pumpFrame (s t : State) : Prop :=
  t = { s with
    pumps := t.pumps, arb := t.arb, link := { s.link with slots := t.link.slots },
    head := { s.head with h := t.head.h } }

/-- What a gate command leaves alone: everything but the gate, the flashing and the duties of the lamps, and what a
pump command may reach through the start table. -/
def gateFrame (s t : State) : Prop :=
  t = { s with
    gate := t.gate,
    lamps := { s.lamps with
      warning := t.lamps.warning, flash := t.lamps.flash, flashCount := t.lamps.flashCount,
      test := t.lamps.test, computed := t.lamps.computed },
    pumps := t.pumps, arb := t.arb, link := { s.link with slots := t.link.slots },
    head := { s.head with h := t.head.h } }

/-- The state in which an order has been heard and answered, before what it does: what the order leaves alone is
measured from here. -/
def orderHeardFrom (s t : State) : State :=
  { s with link := heardLink s.link, order := t.order }

end Sys2Proof.Machine
end

