-- ==== Sys2Proof/Certificates/Slice0/Obligations.lean ====
section
/-! DEFINITION. The statements for the provers. Each is about the commands of one station: what a command does, what
it leaves alone, and what every command keeps. A command's effect is a conclusion of the form exec c s = .next t. -/

open Sys2Proof Sys2Proof.Machine

/-! ### The block as a whole -/

/-- A step takes the command at the front of the queue and runs it on the queue's rest. -/
def Obligations.StepRunsFrontCommand : Prop :=
  ∀ (c : Instr) (rest : List Instr) (s : State), s.pending = c :: rest → step s = exec c (s.withPending rest)

/-- No command faults or is refused, whatever the state, and every command leaves the queue alone and, but for
COLD_RESET, the clock dividers. That a command the station cannot meet answers too is the model's choice (log 1),
and so are the queue and the dividers (log 3). -/
def Obligations.EveryCommandAnswersAndKeepsQueue : Prop :=
  ∀ (c : Instr) (s : State), ∃ t, exec c s = .next t ∧ t.pending = s.pending ∧ (c ≠ .coldReset → t.div = s.div)

/-- What changes at few commands alone. The station mode changes only at a reset, at the end of an image read and at
a RESTART order (alone or as a frame's last character), and the loaded configuration only at a cold reset and at the
end of an image read (R178-R181). HOLD_CLOSED keeps its value through every command but the two orders that set and
clear it (alone or as a frame's last character), the cold reset, and an entry to RUN at a BAY station, which has no
gate (R167; log 28). A channel's applied duty changes at a period boundary, a cold reset and the start of the PWM at
the end of an image read, and at no other command (R140). -/
def Obligations.ModeHoldAndAppliedDutyChangeOnlyWhereNamed : Prop :=
  ∀ (c : Instr) (s t : State), exec c s = .next t →
    (t.mode = s.mode ∨ (c = .coldReset ∧ t.mode = .start) ∨ (c = .resetRelease ∧ t.mode = .start) ∨
      ((∃ image, c = .imageReadComplete image) ∧ s.mode = .start) ∨
      (((∃ arg, c = .restart arg) ∨ (∃ b, c = .goodCharacter b)) ∧ s.mode = .run ∧ t.mode = .start)) ∧
    (t.cfg = s.cfg ∨ c = .coldReset ∨ ((∃ image, c = .imageReadComplete image) ∧ s.mode = .start)) ∧
    (t.gate.holdClosed = s.gate.holdClosed ∨ (∃ arg, c = .gateHold arg ∧ t.gate.holdClosed = true) ∨
      (∃ arg, c = .gateRelease arg ∧ t.gate.holdClosed = false) ∨
      ((∃ b, c = .goodCharacter b) ∧ s.link.asm = .crcLow) ∨ (c = .coldReset ∧ t.gate.holdClosed = false) ∨
      ((∃ image, c = .imageReadComplete image) ∧ t.cfg.portal = false)) ∧
    (t.lamps.applied = s.lamps.applied ∨ c = .pwmPeriodBoundary ∨ c = .coldReset ∨
      ∃ image, c = .imageReadComplete image)

/-- The commands that act in RUN alone change nothing in START and in FALLBACK (log 1 for the commands that a station
outside RUN cannot meet). -/
def Obligations.RunCommandsChangeNothingOutsideRun : Prop :=
  ∀ (c : Instr) (s : State), needsRun c = true → s.mode ≠ .run → exec c s = .next s

/-- A step on an empty queue is one period of Fref, the model's choice (log 3). In it the clocks go on: a ms ends at
every 36864 tenths of a period, a link sample clock at every 2D + h periods, a measurement tick at every Nsel
periods of the probe that is measured, and a PWM clock at every Np (R3, R4, R21, R139). A ms samples the inputs and
counts the timers, by the station mode; a link clock counts the idle time and the frame on the line; a measurement
tick counts the probe's phase; a PWM clock counts the period. What comes due is queued: an input that eight samples
show changed (R1), a timer at its limit, a frame whose gap has passed (R34, R37), the end of a frame, of a phase, of
an active count, of a period; the charge counter goes no further than 4095 (log 39), and a run limit that is
passed when it begins to apply is due at once (log 42). Nothing else changes and nothing else is queued. -/
def Obligations.EmptyQueueStepCountsOnePeriod : Prop :=
  ∀ s : State, s.pending = [] → ∃ t, step s = .next t ∧
    t.loader = (if s.loader.reading then { s.loader with periods := min 4192 (s.loader.periods + 1) } else s.loader) ∧
    (msEnds s → InputsSampled s t ∧ (s.mode ≠ .start → SharedTimersCounted s t) ∧
      (s.mode = .run → RunTimersCounted s t)) ∧
    (¬msEnds s → t.inputs = s.inputs) ∧
    (¬msEnds s ∨ s.mode = .start → t.pumps = s.pumps ∧ t.lamps = { s.lamps with period := t.lamps.period }) ∧
    (¬msEnds s ∨ s.mode ≠ .run → t.probes = { s.probes with a := t.probes.a, b := t.probes.b } ∧
      t.peers = s.peers ∧ t.stage = s.stage ∧ t.head = s.head ∧ t.arb = s.arb ∧ t.gate = s.gate) ∧
    (linkClockEnds s → LinkClocked s t) ∧ (¬linkClockEnds s → t.link = s.link) ∧
    (∀ p, (probeTickEnds s p → ProbeTicked s p t) ∧ (¬probeTickEnds s p → t.probes.get p = s.probes.get p)) ∧
    (pwmClockEnds s → PwmClocked s t) ∧ (¬pwmClockEnds s → t.lamps.period = s.lamps.period) ∧
    t.div = {
      msTenths := leftOver s.div.msTenths 36864 + 10 - (if msEnds s then 36864 else 0),
      link := (let n := 2 * s.cfg.divisor + (if s.cfg.halfStep then 1 else 0)
        if s.mode = .run ∨ s.link.tail ≠ none then
          leftOver s.div.link n + 1 - (if n ≤ leftOver s.div.link n + 1 then n else 0)
        else 0),
      probe := (if s.probes.a.phase ≠ .idle ∨ s.probes.b.phase ≠ .idle then
          (let n := 2 ^ (probeCfg s.cfg (if s.probes.a.phase ≠ .idle then .a else .b)).exponent
           leftOver s.div.probe n + 1 - (if n ≤ leftOver s.div.probe n + 1 then n else 0))
        else 0),
      pwm := (if s.lamps.pwmRunning then
          leftOver s.div.pwm s.cfg.np + 1 -
            (if s.cfg.np ≤ leftOver s.div.pwm s.cfg.np + 1 then s.cfg.np else 0)
        else 0) } ∧
    (t.lamps = { s.lamps with period := t.lamps.period, flashCount := t.lamps.flashCount, test := t.lamps.test }) ∧
    (t.probes = { s.probes with
      a := t.probes.a, b := t.probes.b, sampleTimer := t.probes.sampleTimer,
      historyTimer := t.probes.historyTimer }) ∧
    (∀ c ∈ t.pending, clockCommand c = true) ∧
    (¬msEnds s → ¬linkClockEnds s → (∀ p, ¬probeTickEnds s p) → ¬pwmClockEnds s → t.pending = []) ∧
    t = { s with
      loader := t.loader, inputs := t.inputs, div := t.div, probes := t.probes, link := t.link, peers := t.peers,
      stage := t.stage, head := t.head, arb := t.arb, pumps := t.pumps, lamps := t.lamps, gate := t.gate,
      pending := t.pending, free := s.free + (if t.pending.length ≤ 1 then 0 else 1) }

/-! ### Invariants -/

/-- The interlock of the gate motor is kept by every step, those on an empty queue among them (R152, R153, R158,
R164, R166). That stopped by loss stands in LOWERING and RAISING alone is log 14, that it is clear under LOCAL
tracking logs 14 and 15; the step on an empty queue is log 3, a BAY station's gate log 28. -/
def Obligations.GateInterlockKeptByStep : Prop :=
  ∀ s t : State, GateInv s → step s = .next t → GateInv t

/-- At most one entry is served, and one is served exactly outside IDLE: kept by every step (R100; that a served
entry is not pending is log 7). -/
def Obligations.OneServedEntryKeptByStep : Prop :=
  ∀ s t : State, ServedInv s → step s = .next t → ServedInv t

/-- The order and the contents of the claim list, and in RUN one peer entry for each peer, are kept by every step
(section 6.5, R46, R112-R114; log 3 for the step on an empty queue). -/
def Obligations.ClaimListAndPeerTableKeptByStep : Prop :=
  (∀ s t : State, ClaimsInv s → step s = .next t → ClaimsInv t) ∧
  (∀ s t : State, PeersInv s → step s = .next t → PeersInv t)

/-- The sizes of windows and counts, and in RUN the bounds s_min..256 of the lamp scale, are kept by every step (R8,
R10, R11, R15, R31, R44, R51, R78, R86, R88, R91; log 3 for the step on an empty queue). -/
def Obligations.BoundsKeptByStep : Prop :=
  ∀ s t : State, BoundsInv s → step s = .next t → BoundsInv t

/-- The seven invariants hold right after reset (the input levels there are log 4). -/
def Obligations.InvariantsHoldAtReset : Prop :=
  GateInv State.reset ∧ ServedInv State.reset ∧ ClaimsInv State.reset ∧ PeersInv State.reset ∧
  BoundsInv State.reset ∧ RequestsInv State.reset ∧ PumpRequestsInv State.reset

/-! ### Resets, start-up and the two entries -/

/-- COLD_RESET sets every block to its reset value, takes the filtered inputs from the pins and the supply mode from
the filtered senses, and keeps the waiting commands (R1, R18, R39, R56, R70, R72, R90, R116, R137, R148, R168, R180;
the dividers and the free counter are the model's, logs 3 and 10; the first sample at the command is log 5, the
level of the bay link log 30, the phase of a stopped run/rest timer log 23). RESET_RELEASE, while RESET_N is held,
begins the read of the image in START and changes nothing else (R175, R180); with RESET_N not held it changes
nothing, which is log 1. -/
def Obligations.ResetGivesResetValuesAndReleaseReadsImage : Prop :=
  ∀ s : State, ∃ t, exec .coldReset s = .next t ∧
    t.loader.mode = .start ∧ t.loader.resetHeld = true ∧ t.loader.reading = false ∧ t.loader.clamped = false ∧
    (∀ p, t.inputs.runSense.get p = .settled (s.inputs.runSense.get p).pin ∧
      t.inputs.thermal.get p = .settled (s.inputs.thermal.get p).pin) ∧
    (∀ l, t.inputs.loop.get l = .settled (s.inputs.loop.get l).pin) ∧
    t.inputs.float = .settled s.inputs.float.pin ∧ t.inputs.mainsOk = .settled s.inputs.mainsOk.pin ∧
    t.inputs.standbyOk = .settled s.inputs.standbyOk.pin ∧ t.inputs.limDown = .settled s.inputs.limDown.pin ∧
    t.inputs.limUp = .settled s.inputs.limUp.pin ∧ t.inputs.key = .settled s.inputs.key.pin ∧
    t.inputs.daylight = .settled s.inputs.daylight.pin ∧ t.inputs.pbLower = .settled s.inputs.pbLower.pin ∧
    t.inputs.pbRaise = .settled s.inputs.pbRaise.pin ∧ t.inputs.pbStop = .settled s.inputs.pbStop.pin ∧
    t.head = {
      supply := if s.inputs.mainsOk.pin then .mains else if s.inputs.standbyOk.pin then .standby else .none,
      scale := 256, h := 0, shedCapable := false, timer := .cleared } ∧
    (∀ p, t.probes.get p = {
      phase := .idle, ticks := 0, charge := 0, raw := 0, status := .noReading, window := [],
      faulted := false, runCount := 0, blank := false, depth := none }) ∧
    t.probes.ring = [] ∧ t.probes.rise = 0 ∧ t.probes.riseValid = false ∧ t.probes.blanked = 0 ∧
    t.probes.sampleTimer = .cleared ∧ t.probes.historyTimer = .cleared ∧
    t.link.asm = .hunt ∧ (∀ k, t.link.slots.get k = none) ∧ t.link.onLine = none ∧ t.link.counters = .zero ∧
    t.link.buffer = { header := none, length := none, payload := [], crc := [] } ∧ t.link.idle = 0 ∧
    t.link.idleCounting = false ∧ t.link.tail = none ∧
    t.link.rx = (if s.link.rx = .look then .look else .awaitMark) ∧
    t.peers = { entries := [], timer := .cleared, seq := 0, isolated := false, duplicate := false, seqGap := 0 } ∧
    t.stage = { stage := .wet, blind := true, hold := .cleared, holdCount := 0 } ∧
    (∀ r, entryOf t r = {
      pending := false, request := none, held := none, armed := true, mask := false,
      budgetHeld := false, served := false, posts := 0 }) ∧
    t.arb.claim = .idle ∧ t.arb.listenIn = .stopped ∧ t.arb.listenCount = 0 ∧ t.arb.claims = [] ∧
    t.arb.done = none ∧ t.arb.window = .cleared ∧ t.arb.surge = .cleared ∧ t.arb.busyHeard = false ∧
    t.arb.cancelHeld = false ∧
    (∀ p, pumpOf t p = {
      state := .off, reason := none, cause := none, runPhase := .run, run := .cleared, relief := false,
      runSense := .cleared, thermal := .cleared, exercise := .cleared, floatSurge := .cleared }) ∧
    t.pumps.lead = .p1 ∧ t.pumps.later = none ∧ t.pumps.leadDemand = false ∧ t.pumps.lagDemand = false ∧
    t.pumps.floatTimer = .cleared ∧
    t.lamps.bank = .dark ∧ t.lamps.period = 0 ∧ t.lamps.pwmRunning = false ∧
    (∀ ch, t.lamps.computed.get ch = 0 ∧ t.lamps.applied.get ch = 0) ∧
    t.lamps.warning = false ∧ t.lamps.flash = .stopped ∧ t.lamps.flashCount = 0 ∧ t.lamps.test = .cleared ∧
    t.gate = {
      state := .atOpen, cause := none, motor := .off, closeOrder := false, holdClosed := false,
      blockedFlag := false, stoppedByLoss := false, warning := .cleared, dwell := .cleared, blocked := .cleared,
      travel := .cleared, reopen := .cleared, localSurge := .cleared, stuck := t.gate.stuck } ∧
    (∀ l, t.gate.stuck.get l = { timer := .cleared, fault := false }) ∧ t.order = none ∧ t.pending = s.pending ∧
    (s.loader.resetHeld = true → exec .resetRelease s =
      .next { s with loader := { s.loader with mode := .start, resetHeld := false, reading := true, periods := 0 } }) ∧
    (s.loader.resetHeld = false → exec .resetRelease s = .next s)

/-- A valid image takes the station to RUN with the clamped fields, and every block takes its entry actions
(R175-R178, R2, R15, R24, R39, R41, R46, R53, R83, R91, R97, R124, R131, R137, R138, R144, R146, R148, R149, R151,
R153); the dwell and stuck timers start at a PORTAL station; a BAY station's gate and a pump that is not fitted
stand at their reset values (log 28); the exercise timers are log 22. The first events of the latches come later
(log 20), the applied duties stand until the next period boundary (log 25), and the receiver begins with the line
where it stands (log 30). A pump that START has left RUNNING with its thermal input asserted is in FAULT, and the lead
designation passes to a partner in service (R124, R126, R127; the moment is the model's choice, log 29). -/
def Obligations.ValidImageEntersRun : Prop :=
  ∀ (image : List Byte) (s : State), s.mode = .start → s.loader.reading = true → imageValid image = true →
    ∃ t, exec (.imageReadComplete image) s = .next t ∧
      (let trips := fun p => fitted t.cfg p = true ∧ contactorClosed s p = true ∧
         (s.inputs.thermal.get p).level = true ∧ s.head.supply ≠ .none
       (∀ p, trips p → pumpOf t p = faultedPump .thermal) ∧
       (tableAtRest s → (∀ p, ¬trips p) →
         t.pumps.lead = (if fitted t.cfg .p2 then s.pumps.lead else .p1)) ∧
       (∀ p, trips p → ¬trips p.other → s.pumps.lead = p → fitted t.cfg p.other = true →
         (pumpOf s p.other).state ≠ .fault → (pumpOf s p.other).state ≠ .inhibited →
         ((pumpOf s p.other).state = .resting → (s.inputs.thermal.get p.other).level = false) →
         t.pumps.lead = p.other) ∧
       (∀ p, fitted t.cfg p = true → s.head.supply ≠ .none → (∀ i, ¬trips i) →
        (let q := pumpOf s p
         let limit := (t.cfg.pump.get p).tex * 3600000
         pumpOf t p = { q with
           thermal := if q.state = .fault ∧ q.cause = some .thermal ∧ (s.inputs.thermal.get p).level = false
             then .fromZero else .cleared,
           exercise :=
             if q.state = .off then
               (if limit = 0 then .cleared
                else if q.exercise.phase = .atLimit ∧ limit ≤ q.exercise.count then q.exercise
                else { phase := .running, count := q.exercise.count })
             else if q.state = .running ∧ q.reason = some .exercise then { q.exercise with phase := .running }
             else q.exercise }))) ∧
      t.loader = { s.loader with
        mode := .run, reading := false, periods := 4192, image := image,
        cfg := clampFields (readFields image), clamped := wasClamped image } ∧
      t.probes = { s.probes with
        sampleTimer := .fromZero, historyTimer := .fromZero,
        a := if t.cfg.probeA.enable then { s.probes.a with phase := .discharge, ticks := 0, blank := false }
             else s.probes.a,
        b := if !t.cfg.probeA.enable && t.cfg.probeB.enable then
               { s.probes.b with phase := .discharge, ticks := 0, blank := false }
             else s.probes.b } ∧
      t.link = { s.link with
        asm := .hunt, buffer := .empty, rx := if s.link.rx = .look then .look else .awaitMark, idle := 0,
        idleCounting := s.link.rx == .look && s.link.tail.isNone, slots := t.link.slots } ∧
      t.link.slots.status = some 0 ∧
      t.peers = { s.peers with
        entries := (peerNumbers t.cfg).map fun k => { station := k, age := none, contents := none },
        timer := .fromZero, isolated := true } ∧
      t.stage = s.stage ∧
      t.head = { s.head with
        scale := max t.cfg.sMin (min 256 s.head.scale), timer := .fromZero,
        shedCapable := shedCondition t } ∧
      t.arb.listenIn = .running ∧ t.arb.listenCount = 0 ∧ t.arb.claims = s.arb.claims ∧
      t.pumps.floatTimer = (if s.inputs.float.level then .fromZero else .cleared) ∧
      (∀ p, fitted t.cfg p = false → pumpOf t p = pumpOf State.reset p) ∧
      (s.lamps.bank ≠ .lit → s.head.supply ≠ .none → (entryOf s .lamps).armed = true →
        (entryOf s .lamps).served = false → (entryOf t .lamps).pending = true ∧ (entryOf t .lamps).armed = false ∧
        (entryOf t .lamps).request = some { reason := .relight, level := t.cfg.lvRelight, trigger := .edge }) ∧
      (s.lamps.bank = .lit ∨ s.head.supply = .none → s.arb.claim = .idle → (entryOf s .lamps).pending = false →
        (entryOf s .lamps).served = false → (entryOf t .lamps).pending = false) ∧
      (s.lamps.warning = false → s.lamps.flash = .stopped →
        t.lamps.flash = (if t.lamps.warning then .on else .stopped) ∧
        (t.lamps.warning = true → t.lamps.flashCount = 0)) ∧
      (∀ ch, t.lamps.applied.get ch = if (t.cfg.channel.get ch).role = 0 then 0 else s.lamps.applied.get ch) ∧
      (s.lamps.test.phase ≠ .running → ∀ ch, t.lamps.computed.get ch =
        if t.lamps.bank = .dark then 0
        else if (t.cfg.channel.get ch).role = 1 then activeTarget t ch * t.head.scale / 256
        else if (t.cfg.channel.get ch).role = 2 ∧ t.lamps.flash = .on then activeTarget t ch else 0) ∧
      t.lamps.pwmRunning = true ∧ t.lamps.period = 0 ∧ t.lamps.warning = warningCondition t ∧
      t.lamps.bank = (if s.head.supply = .none then .dark else s.lamps.bank) ∧
      (t.cfg.portal = true →
        t.gate.holdClosed = s.gate.holdClosed ∧
        t.gate.dwell = (if loopsClear t then .fromZero else .cleared) ∧
        ∀ l, t.gate.stuck.get l = {
          timer := if t.cfg.counted.get l && (s.inputs.loop.get l).level then .fromZero else .cleared,
          fault := false }) ∧
      (t.cfg.portal = false → t.gate = State.reset.gate) ∧
      t = { s with
        loader := t.loader, probes := t.probes, link := t.link, peers := t.peers, head := t.head,
        arb := t.arb, pumps := t.pumps, lamps := t.lamps, gate := t.gate }

/-- At entry to RUN the gate state of a PORTAL station is derived: with the key in AUTO from its limits, the stage
and HOLD_CLOSED, and OPEN judges its closing causes (R154, R163); under the LOCAL key it is the tracking state of a
motor that stands still (R163, R164; a wait is not timed there, log 15; with both limits asserted the UP limit is
looked at first, log 43). -/
def Obligations.EntryToRunDerivesGate : Prop :=
  ∀ (image : List Byte) (s : State), s.mode = .start → s.loader.reading = true → imageValid image = true →
    (readFields image).portal = true →
    ∃ t, exec (.imageReadComplete image) s = .next t ∧
      (s.inputs.key.level = true → s.gate.motor = .off → s.gate.state ≠ .fault →
        t.gate.motor = .off ∧ t.gate.blocked = .cleared ∧ t.gate.blockedFlag = false) ∧
      (s.inputs.key.level = true → s.gate.motor = .off → t.gate.state =
        (if s.gate.state = .fault then .fault
         else if s.inputs.limUp.level then .atOpen
         else if s.inputs.limDown.level then .closed
         else .lowerPaused)) ∧
      (s.inputs.key.level = false → t.gate.state =
        (if s.inputs.limUp.level && s.inputs.limDown.level then .fault
         else if s.inputs.limUp.level then
           (if (s.stage.stage == .flood && (readFields image).autoClose) || s.gate.closeOrder || s.gate.holdClosed
            then .warning else .atOpen)
         else if s.inputs.limDown.level then .closed
         else if s.stage.stage == .flood || s.gate.holdClosed then .warning
         else .raisePending) ∧
        (t.gate.state = .fault → t.gate.cause = some .limits ∧ t.gate.motor = .off) ∧
        (t.gate.state = .closed → t.gate.motor = .off ∧ t.gate.closeOrder = false) ∧
        (t.gate.state = .warning → t.gate.warning = .fromZero) ∧
        (t.gate.state = .raisePending → t.gate.travel = .cleared))

/-- An image that is not valid takes the station to FALLBACK with the clamped fields (R176, R179): the NORMAL
channels at full duty, the WARNING channels flashing at their targets (R150), each fitted pump in OFF, or in FAULT
with its thermal input asserted, unless it stands in FAULT or INHIBITED (R126, R138; that a pump already OFF enters
OFF there and is judged is log 29), and the float timer as the float stands (R131). The gate keeps its state, after
a warm restart the one derived there, where R168 could be read as OPEN (R169; the model's choice, log 36). -/
def Obligations.InvalidImageEntersFallback : Prop :=
  ∀ (image : List Byte) (s : State), s.mode = .start → s.loader.reading = true → imageValid image = false →
    ∃ t, exec (.imageReadComplete image) s = .next t ∧
      t.loader = { s.loader with
        mode := .fallback, reading := false, periods := 4192, image := image,
        cfg := clampFields (readFields image), clamped := wasClamped image } ∧
      t.lamps.pwmRunning = true ∧ t.lamps.period = 0 ∧ t.lamps.flash = .on ∧ t.lamps.flashCount = 0 ∧
      (∀ ch, t.lamps.computed.get ch =
        (if (t.cfg.channel.get ch).role = 1 then 4095
         else if (t.cfg.channel.get ch).role = 2 then activeTarget t ch else 0)) ∧
      (∀ p, fitted t.cfg p = true → (pumpOf s p).state ≠ .fault → (pumpOf s p).state ≠ .inhibited →
        (pumpOf t p).state = (if (s.inputs.thermal.get p).level && s.head.supply != .none then .fault else .off)) ∧
      (∀ p, fitted t.cfg p = true → (pumpOf s p).state = .fault ∨ (pumpOf s p).state = .inhibited →
        (pumpOf t p).state = (pumpOf s p).state ∧ (pumpOf t p).cause = (pumpOf s p).cause) ∧
      t.pumps.floatTimer = (if s.inputs.float.level then .fromZero else .cleared) ∧
      t = { s with
        loader := t.loader, link := { s.link with slots := t.link.slots }, arb := t.arb,
        pumps := t.pumps, lamps := t.lamps }

/-- RESTART keeps what a warm restart keeps and clears the rest, and the image is read again; nothing is answered
(R174, R175, R181, with R19, R40, R57, R71, R91, R117, R126, R138, R151, R154, R169). The frame's own count of RX_OK
stands. Of a frame on the line the character in progress alone is driven to its end (log 11); the charge counter,
which R19 does not name, is kept (log 38); the timers of a pump left as it stands are held (log 23), and the running
order of a pump that passes from SURGING to RUNNING is log 20, and the UP limit before the DOWN limit under LOCAL is
log 43. A pump left RUNNING for DEMAND or HANDOVER at or beyond its run limit has relief due set where the restart
takes the stage out of FLOOD (R71, R128, R129). -/
def Obligations.RestartKeepsAndClears : Prop :=
  ∀ (arg : Half) (s : State), s.mode = .run → ∃ t, exec (.restart arg) s = .next t ∧
    t.loader = { s.loader with mode := .start, resetHeld := false, reading := true, periods := 0 } ∧
    t.probes = { State.reset.probes with
      a := { State.reset.probes.a with charge := s.probes.a.charge, raw := s.probes.a.raw },
      b := { State.reset.probes.b with charge := s.probes.b.charge, raw := s.probes.b.raw },
      blanked := s.probes.blanked } ∧
    t.link = { State.reset.link with
      tail := t.link.tail,
      counters := { s.link.counters with rxOk := min 65535 (s.link.counters.rxOk + 1) } } ∧
    (s.link.onLine = none → t.link.tail = s.link.tail) ∧
    (∀ f, s.link.onLine = some f → t.link.tail =
      (f.bytes[f.position / 160]?).map fun b => { byte := b, position := f.position % 160 }) ∧
    t.peers = { State.reset.peers with seq := s.peers.seq, seqGap := s.peers.seqGap } ∧
    t.stage = State.reset.stage ∧ t.order = none ∧
    t.head = { s.head with shedCapable := false, timer := .cleared } ∧
    t.arb = { State.reset.arb with table := { State.reset.arb.table with
      p1 := { State.reset.arb.table.p1 with mask := (pumpOf s .p1).state == .inhibited },
      p2 := { State.reset.arb.table.p2 with mask := (pumpOf s .p2).state == .inhibited } } } ∧
    t.pumps.leadDemand = false ∧ t.pumps.lagDemand = false ∧ t.pumps.floatTimer = .cleared ∧
    (s.head.supply = .none ∨ (∀ p, (s.inputs.thermal.get p).level = false) →
      t.pumps.lead = s.pumps.lead ∧
      ∀ p, (pumpOf t p).state = (match (pumpOf s p).state with
          | .surging | .running => if (s.inputs.runSense.get p).level then .running else .off
          | .off | .pending | .claiming => .off
          | .resting => .resting
          | .fault => .fault
          | .inhibited => .inhibited)) ∧
    (∀ p, fitted s.cfg p = true → s.head.supply ≠ .none → (s.inputs.thermal.get p).level = true →
      (pumpOf s p).state = .pending ∨ (pumpOf s p).state = .claiming ∨
        (((pumpOf s p).state = .running ∨ (pumpOf s p).state = .surging) ∧
          (s.inputs.runSense.get p).level = false) →
      pumpOf t p = faultedPump .thermal) ∧
    (∀ p, (pumpOf s p).state = .fault ∨ (pumpOf s p).state = .inhibited →
      pumpOf t p = { pumpOf s p with thermal := .cleared, relief := false }) ∧
    (let held := fun x : Timer => if x.phase = .running then { x with phase := TimerPhase.held } else x
     ∀ p, ((pumpOf s p).state = .resting → (pumpOf t p).state = .resting →
        pumpOf t p = { pumpOf s p with relief := false, exercise := held (pumpOf s p).exercise }) ∧
      ((pumpOf s p).state = .running ∨ (pumpOf s p).state = .surging → (s.inputs.runSense.get p).level = true →
        pumpOf t p = { pumpOf s p with
          state := .running, runSense := .cleared, floatSurge := .cleared,
          run := if (pumpOf s p).state = .surging then .fromZero else (pumpOf s p).run,
          relief := (pumpOf s p).relief || (s.stage.stage == .flood && (pumpOf s p).state == .running &&
            ((pumpOf s p).reason == some .demand || (pumpOf s p).reason == some .handover) &&
            (s.cfg.pump.get p).a != 0 && decide ((s.cfg.pump.get p).a * 1000 ≤ (pumpOf s p).run.count)),
          exercise := held (pumpOf s p).exercise }) ∧
      ((pumpOf t p).state = .off → (pumpOf s p).state ≠ .resting →
        pumpOf t p = { pumpOf State.reset p with exercise := held (pumpOf s p).exercise })) ∧
    (∀ p, t.pumps.leftRunning.get p = ((pumpOf t p).state == .running)) ∧
    ((∀ p, (pumpOf s p).state ≠ .surging) → t.pumps.later = s.pumps.later) ∧
    t.lamps.bank = (if s.lamps.bank = .dark then .dark else .lit) ∧ t.lamps.applied = s.lamps.applied ∧
    t.lamps.pwmRunning = s.lamps.pwmRunning ∧ t.lamps.period = s.lamps.period ∧ t.lamps.warning = false ∧
    t.lamps.flash = .stopped ∧ t.lamps.flashCount = 0 ∧ t.lamps.test = .cleared ∧
    (s.lamps.test.phase ≠ .running → t.lamps.computed = s.lamps.computed) ∧
    (s.cfg.portal = true →
      t.gate = { State.reset.gate with
        state := t.gate.state, cause := t.gate.cause, holdClosed := s.gate.holdClosed } ∧
      (s.inputs.key.level = false →
        t.gate.state = (if s.inputs.limUp.level && s.inputs.limDown.level then .fault
          else if s.inputs.limUp.level then (if s.gate.holdClosed then .warning else .atOpen)
          else if s.inputs.limDown.level then .closed
          else if s.gate.holdClosed then .warning
          else .raisePending) ∧
        (t.gate.state = .fault → t.gate.cause = some .limits)) ∧
      (s.inputs.key.level = true →
        t.gate.state = (if s.gate.state == .fault then .fault
          else if s.inputs.limUp.level then .atOpen
          else if s.inputs.limDown.level then .closed
          else .lowerPaused))) ∧
    t = { s with
      loader := t.loader, probes := t.probes, link := t.link, peers := t.peers, stage := t.stage,
      order := none, head := t.head, arb := t.arb, pumps := t.pumps, lamps := t.lamps, gate := t.gate }

/-! ### The Probe Unit -/

/-- SAMPLE_TIMER_EXPIRY restarts the timer and, with both probes IDLE, begins a cycle with the first enabled probe
in DISCHARGE (R2). DISCHARGE_COMPLETE takes the probe in DISCHARGE to CHARGE, with the counter at 4095 - Rld and the
measurement blanked where the surge signal is active (R3, R4, R7), and releases its electrode, which is held to
ground in IDLE and DISCHARGE (R3, R4). DISCHARGE_COMPLETE with no probe in DISCHARGE changes nothing, which is log
1. -/
def Obligations.CycleBeginsAndCharges : Prop :=
  ∀ s : State, s.mode = .run →
    (∀ p, electrodeGrounded s p = true ↔ (s.probes.get p).phase = .idle ∨ (s.probes.get p).phase = .discharge) ∧
    (∀ p, (s.probes.get p).phase = .discharge → (p = .b → s.probes.a.phase ≠ .discharge) →
      ∃ t, exec .dischargeComplete s = .next t ∧ electrodeGrounded t p = false) ∧
    (s.probes.sampleTimer.phase = .running → s.probes.a.phase = .idle → s.probes.b.phase = .idle →
      exec .sampleTimerExpiry s = .next { s with
        probes := { s.probes with
          sampleTimer := .fromZero,
          a := if s.cfg.probeA.enable then { s.probes.a with phase := .discharge, ticks := 0, blank := false }
               else s.probes.a,
          b := if !s.cfg.probeA.enable && s.cfg.probeB.enable then
                 { s.probes.b with phase := .discharge, ticks := 0, blank := false }
               else s.probes.b } }) ∧
    (s.probes.sampleTimer.phase = .running → s.probes.a.phase ≠ .idle ∨ s.probes.b.phase ≠ .idle →
      exec .sampleTimerExpiry s = .next { s with probes := { s.probes with sampleTimer := .fromZero } }) ∧
    (s.probes.a.phase = .discharge →
      exec .dischargeComplete s = .next { s with
        probes := { s.probes with
          a := { s.probes.a with
            phase := .charge, ticks := s.cfg.probeA.nd, charge := 4095 - s.cfg.probeA.rld,
            blank := s.arb.claim == .surge || s.pumps.pump.p1.floatSurge.phase == .running ||
              s.pumps.pump.p2.floatSurge.phase == .running } } }) ∧
    (s.probes.a.phase ≠ .discharge → s.probes.b.phase = .discharge →
      exec .dischargeComplete s = .next { s with
        probes := { s.probes with
          b := { s.probes.b with
            phase := .charge, ticks := s.cfg.probeB.nd, charge := 4095 - s.cfg.probeB.rld,
            blank := s.arb.claim == .surge || s.pumps.pump.p1.floatSurge.phase == .running ||
              s.pumps.pump.p2.floatSurge.phase == .running } } }) ∧
    (s.probes.a.phase ≠ .discharge → s.probes.b.phase ≠ .discharge → exec .dischargeComplete s = .next s)

/-- A blanked measurement of a probe completes with status BLANKED, at a trip and at an overflow: the count of
blanked readings goes up by one, up to 65535, and the probe's raw value, window, run count, fault state and depth
stay (R5, R7, R8). That a trip captures the charge counter as it stands, whatever count its command names, is the
model's choice (log 31), and so is the counter at 4095 after an overflow (log 39). The cycle passes on (R2), and
nothing outside the Probe Unit changes. The count is 0 after a cold
reset, stays across a warm restart, and is read, and with argument 1 cleared, by COUNTERS (R8). -/
def Obligations.BlankedReadingOnlyCounts : Prop :=
  (∀ (p : ProbeId) (s : State), s.mode = .run → (s.probes.get p).phase = .charge →
    (p = .b → s.probes.a.phase ≠ .charge) → (s.probes.get p).blank = true →
    ∀ c n, ((∃ x, c = .probeTrip x) ∧ n = (s.probes.get p).charge) ∨ (c = .probeOverflow ∧ n = 4095) →
    ∃ t, exec c s = .next t ∧
      t.probes.get p = { s.probes.get p with phase := .idle, charge := n, blank := false, status := .blanked } ∧
      t.probes.blanked = min 65535 (s.probes.blanked + 1) ∧
      (p = .a → t.probes.b = (if s.cfg.probeB.enable then
        { s.probes.b with phase := .discharge, ticks := 0, blank := false } else s.probes.b)) ∧
      (p = .b → t.probes.a = s.probes.a) ∧
      t = { s with probes := { s.probes with a := t.probes.a, b := t.probes.b, blanked := t.probes.blanked } }) ∧
  (∀ s : State, ∃ t, exec .coldReset s = .next t ∧ t.probes.blanked = 0) ∧
  (∀ (arg : Half) (s : State), s.mode = .run →
    ∃ t, exec (.restart arg) s = .next t ∧ t.probes.blanked = s.probes.blanked) ∧
  (∀ (arg : Half) (s : State), s.mode = .run → arg = 0 ∨ arg = 1 → ∃ t d, exec (.counters arg) s = .next t ∧
    answeredWith t 3 arg .accepted d ∧ (d.drop 18).take 2 = bytes16 s.probes.blanked ∧
    t.probes.blanked = if arg = 1 then 0 else s.probes.blanked)

/-- A trip that is not blanked captures the charge counter as it stands, whatever count its command names (log 31),
and gives a reading (R5, R6, R9-R12): OPEN below T_openmin, otherwise OK with the depth of R9; an overflow gives
OVER with the probe length, the counter at 4095 (log 39). The electrode is back at ground (R5), and the cycle passes
on (R2). With the probe's depth unchanged nothing outside the Probe Unit changes; a changed roadway depth evaluates
the stage (R13, R63-R67), and a changed depth judges the demand latches (R119, R120). -/
def Obligations.ReadingIsTaken : Prop :=
  ∀ (p : ProbeId) (s : State), s.mode = .run → (s.probes.get p).phase = .charge →
    (p = .b → s.probes.a.phase ≠ .charge) → (s.probes.get p).blank = false →
    (∀ x, ∃ t, exec (.probeTrip x) s = .next t ∧ electrodeGrounded t p = true ∧
      ReadingTaken (probeCfg s.cfg p) (s.probes.get p).charge (s.probes.get p) (t.probes.get p) ∧
      MeasurementFrame p s t) ∧
    (∃ t, exec .probeOverflow s = .next t ∧ electrodeGrounded t p = true ∧
      (t.probes.get p).phase = .idle ∧ (t.probes.get p).charge = 4095 ∧ (t.probes.get p).status = .over ∧
      (t.probes.get p).raw = (s.probes.get p).raw ∧
      DepthTaken (probeCfg s.cfg p).len (s.probes.get p) (t.probes.get p) ∧ MeasurementFrame p s t)

/-- HISTORY_TIMER_EXPIRY appends the roadway depth, sixteen entries at most, and computes the rise rate from the
oldest and the newest entries that hold a depth (R15, R16); with the rise rate and its validity unchanged nothing
else changes, and where one of them changes the stage is evaluated (R17, R63-R67). -/
def Obligations.HistoryTimerAppendsAndComputesRise : Prop :=
  ∀ s : State, s.mode = .run → s.probes.historyTimer.phase = .running → ∃ t, exec .historyTimerExpiry s = .next t ∧
    t.probes = { s.probes with
      historyTimer := .fromZero, ring := t.probes.ring, rise := t.probes.rise, riseValid := t.probes.riseValid } ∧
    t.probes.ring = (s.probes.ring ++ [s.probes.b.depth]).drop (s.probes.ring.length - 15) ∧
    (∀ i j d e : Nat, i < j → t.probes.ring[i]? = some (some d) → t.probes.ring[j]? = some (some e) →
      (∀ k < i, t.probes.ring[k]? = some none) → (∀ k > j, t.probes.ring[k]? = some none ∨ t.probes.ring[k]? = none) →
      t.probes.riseValid = true ∧
      t.probes.rise =
        max (-32768) (min 32767 ((((e : Int) - d) * 60).tdiv (((j - i) * s.cfg.th : Nat) : Int)))) ∧
    ((t.probes.ring.filter Option.isSome).length < 2 → t.probes.riseValid = false ∧ t.probes.rise = 0) ∧
    (t.probes.rise = s.probes.rise → t.probes.riseValid = s.probes.riseValid → t = { s with probes := t.probes }) ∧
    (t.probes.rise ≠ s.probes.rise ∨ t.probes.riseValid ≠ s.probes.riseValid →
      StageFollows s { s with probes := t.probes } False t ∧
      (t.stage.stage = s.stage.stage → t = { s with probes := t.probes, stage := t.stage })) ∧
    t = { s with
      probes := t.probes, stage := t.stage, gate := t.gate, lamps := t.lamps, pumps := t.pumps, arb := t.arb,
      link := { s.link with slots := t.link.slots }, head := { s.head with h := t.head.h } }

/-! ### The receiver -/

/-- A complete frame that fails a check of R28 is counted once, under the first check it fails, and ends in HUNT with
the idle time restarted (R24, R25; log 26 for the idle time while the station's own frame is on the line); a frame
that fails none is no FRAME_REJECTED (log 1). -/
def Obligations.RejectedFrameIsCountedOnce : Prop :=
  ∀ (f : RxFrame) (s : State), s.mode = .run →
    let kind := f.header.toNat / 16
    let sender := f.header.toNat % 16
    let n := f.payload.length
    let crcFails := crcOf ([f.header, byteOf n] ++ f.payload) ≠ f.crc
    let kindFails := kind = 0 ∨ 6 < kind
    let lengthFails := (kind = 1 ∧ n ≠ 15) ∨ (kind = 2 ∧ n ≠ 4) ∨ (kind = 3 ∧ n ≠ 3) ∨ (kind = 4 ∧ n ≠ 2) ∨
      (kind = 5 ∧ n ≠ 4) ∨ (kind = 6 ∧ (n < 3 ∨ 24 < n))
    let senderFails := (sender = 15 ∧ kind ≠ 5) ∨
      (sender ≠ 15 ∧ (8 ≤ sender ∨ s.cfg.roster.getLsbD sender = false))
    let c := s.link.counters
    let ended := fun counters => { s with
      link := { s.link with
        asm := .hunt, buffer := .empty, rx := .look, idle := 0,
        idleCounting := s.link.onLine.isNone && s.link.tail.isNone,
        counters := counters } }
    (crcFails → exec (.frameRejected f) s = .next (ended { c with crcErr := min 65535 (c.crcErr + 1) })) ∧
    (¬crcFails → kindFails →
      exec (.frameRejected f) s = .next (ended { c with unknownKind := min 65535 (c.unknownKind + 1) })) ∧
    (¬crcFails → ¬kindFails → lengthFails →
      exec (.frameRejected f) s = .next (ended { c with lengthErr := min 65535 (c.lengthErr + 1) })) ∧
    (¬crcFails → ¬kindFails → ¬lengthFails → senderFails →
      exec (.frameRejected f) s = .next (ended { c with foreign := min 65535 (c.foreign + 1) })) ∧
    (¬crcFails → ¬kindFails → ¬lengthFails → ¬senderFails → exec (.frameRejected f) s = .next s)

/-- The receiver. GOOD_CHARACTER moves the receive assembler as Figure 2-3 gives, short of the frame's last
character, and the idle time restarts (R24, R25); a length byte above 24, by GOOD_CHARACTER and by LENGTH_BYTE_ERROR
alike, counts LENGTH_ERR and goes to DISCARD (R27). A bad character and an idle time past 4 bit times abandon a
frame that is begun, counted under FRAGMENT, to DISCARD and to HUNT; in HUNT nothing is abandoned, and DISCARD is
left at the idle time alone (R26). After a bad stop bit no character is formed before the line is back at mark
(R22). A start bit stops the idle time at zero, and a return of the line to mark, after a glitch or a bad stop bit,
restarts it (R22, R24; the count that the timeout sets is log 2). Where the station forms no characters the level of
the line alone is followed (log 30). -/
def Obligations.CharactersAndLineEventsMoveReceiver : Prop :=
  (∀ (x : Byte) (s : State), s.mode = .run → s.link.onLine = none → s.link.tail = none → s.link.rx ≠ .awaitMark →
    let b := s.link.buffer
    let moved := fun asm buffer counters => { s with
      link := { s.link with
        asm := asm, buffer := buffer, rx := .look, idle := 0, idleCounting := true, counters := counters } }
    let c := s.link.counters
    let refused := moved .discard .empty { c with lengthErr := min 65535 (c.lengthErr + 1) }
    (s.link.asm = .hunt → x = 0xC6 → exec (.goodCharacter x) s = .next (moved .header .empty c)) ∧
    (s.link.asm = .hunt → x ≠ 0xC6 → exec (.goodCharacter x) s = .next (moved .hunt b c)) ∧
    (s.link.asm = .header →
      exec (.goodCharacter x) s = .next (moved .length { b with header := some x } c)) ∧
    (s.link.asm = .length → x.toNat ≤ 24 → exec (.goodCharacter x) s =
      .next (moved (if x = 0 then .crcHigh else .payload) { b with length := some x } c)) ∧
    (s.link.asm = .length → 24 < x.toNat →
      exec (.goodCharacter x) s = .next refused ∧ exec (.lengthByteError x) s = .next refused) ∧
    (∀ n, s.link.asm = .payload → b.length = some n → exec (.goodCharacter x) s =
      .next (moved (if n.toNat ≤ b.payload.length + 1 then .crcHigh else .payload)
        { b with payload := b.payload ++ [x] } c)) ∧
    (s.link.asm = .crcHigh → exec (.goodCharacter x) s = .next (moved .crcLow { b with crc := [x] } c)) ∧
    (s.link.asm = .discard → exec (.goodCharacter x) s = .next (moved .discard b c))) ∧
  (∀ s : State, s.mode = .run → s.link.onLine = none → s.link.tail = none →
    let begun := s.link.asm ≠ .hunt ∧ s.link.asm ≠ .discard
    let bad := { s.link with rx := .awaitMark, idle := 0, idleCounting := false }
    let idle := { s.link with idle := max s.link.idle 65 }
    let fragment := { s.link.counters with fragment := min 65535 (s.link.counters.fragment + 1) }
    (s.link.rx ≠ .awaitMark → begun → exec .badCharacter s = .next { s with
      link := { bad with asm := .discard, buffer := .empty, counters := fragment } }) ∧
    (s.link.rx ≠ .awaitMark → ¬begun → exec .badCharacter s = .next { s with link := bad }) ∧
    (s.link.rx = .awaitMark → exec .badCharacter s = .next s ∧
      ∀ x, exec (.goodCharacter x) s = .next s ∧ exec (.lengthByteError x) s = .next s) ∧
    (s.link.idleCounting = true →
      (begun → exec .linkIdleTimeout s = .next { s with
        link := { idle with asm := .hunt, buffer := .empty, counters := fragment } }) ∧
      (s.link.asm = .discard → exec .linkIdleTimeout s = .next { s with
        link := { idle with asm := .hunt, buffer := .empty } }) ∧
      (s.link.asm = .hunt → exec .linkIdleTimeout s = .next { s with link := idle })) ∧
    (s.link.rx = .look → exec .startBit s = .next { s with
      link := { s.link with rx := .character, idle := 0, idleCounting := false } }) ∧
    (s.link.rx = .character ∨ s.link.rx = .awaitMark → exec .lineReturnToMark s = .next { s with
      link := { s.link with rx := .look, idle := 0, idleCounting := true } })) ∧
  (∀ s : State, s.mode ≠ .run ∨ s.link.onLine ≠ none ∨ s.link.tail ≠ none →
    (s.link.rx = .look → exec .startBit s = .next { s with
      link := { s.link with rx := .awaitMark, idle := 0, idleCounting := false } }) ∧
    (s.link.rx ≠ .look → exec .lineReturnToMark s = .next { s with
      link := { s.link with rx := .look, idle := 0, idleCounting := false } }))

/-- The last character of a frame does exactly what the command of the whole frame does: the rejection, the arrival or
the order that the gathered bytes are (R25, R28, R30, R170). That an arrival or an order command stands for its whole
frame is the model's choice (log 6). -/
def Obligations.LastCharacterIsTheFramesCommand : Prop :=
  ∀ (x : Byte) (s : State), s.mode = .run → s.link.onLine = none → s.link.tail = none →
    s.link.rx ≠ .awaitMark → s.link.asm = .crcLow →
    exec (.goodCharacter x) s = exec (frameCommand s (bufferedFrame s.link.buffer x)) s

/-! ### The transmitter -/

/-- TRANSMISSION_BEGIN takes the pending frame that comes first in the order CLAIM, BUSY, DONE, STATUS, REPORT from
its slot, with the line idle for its access gap, which a failed attempt lengthens by the backoff, and puts it on the
line: SYNC, kind and sender, payload length, payload, CRC (R29, R34, R35, R37, Figures 2-2 and 2-4). With no pending
frame, with the line idle for less than the gap, or with a frame or the rest of a stopped one on the line, nothing
changes (log 26). -/
def Obligations.TransmissionTakesChosenFrame : Prop :=
  ∀ (k : TxKind) (n : Nat) (s : State), s.mode = .run →
    (sendsNext s.link k n → gapPassed s.cfg s.link k n → ∃ t f payload, exec .transmissionBegin s = .next t ∧
      t.link = { s.link with
        asm := .hunt, buffer := .empty, idle := 0, idleCounting := false,
        slots := s.link.slots.set k none, onLine := some f } ∧
      f.kind = k ∧ f.attempts = n ∧ f.position = 0 ∧
      (let body := [byteOf (txKindCode k * 16 + s.cfg.station), byteOf payload.length] ++ payload
       f.bytes = [0xC6] ++ body ++ [hiByte (crcOf body).toNat, loByte (crcOf body).toNat]) ∧
      t = { s with link := t.link, free := t.free } ∧
      (k = .status → payload.length = 15) ∧ (k = .claim → payload.length = 4) ∧
      (k = .busy → payload.length = 3) ∧ (k = .done → payload.length = 2) ∧
      (∀ d, k = .report → s.order = some d → payload.length = 3 + d.data.length)) ∧
    (sendsNext s.link k n → ¬gapPassed s.cfg s.link k n → exec .transmissionBegin s = .next s) ∧
    ((∀ j, s.link.slots.get j = none) → exec .transmissionBegin s = .next s)

/-- The fields of a STATUS are gathered from their blocks as its transmission begins (R17, R35, R45, Figure 3-2). -/
def Obligations.StatusCarriesStationState : Prop :=
  ∀ (n : Nat) (s : State), s.mode = .run → sendsNext s.link .status n → gapPassed s.cfg s.link .status n →
    ∃ t f, exec .transmissionBegin s = .next t ∧ t.link.onLine = some f ∧
      (∃ b, f.bytes[3]? = some b ∧ b.getLsbD 7 = s.cfg.portal ∧ b.getLsbD 6 = s.peers.isolated ∧
        b.getLsbD 5 = s.peers.duplicate ∧ b.getLsbD 4 = s.stage.blind ∧ b.getLsbD 3 = s.head.shedCapable ∧
        b.getLsbD 2 = lagRunning s ∧ b.getLsbD 1 = surgeSignal s ∧
        b.getLsbD 0 = (s.cfg.portal && s.gate.blockedFlag)) ∧
      f.bytes[4]? = some (match s.stage.stage with | .dry => (0 : Byte) | .wet => 1 | .alert => 2 | .flood => 3) ∧
      (f.bytes.drop 5).take 2 = bytes16 (s.probes.b.depth.getD 65535) ∧
      (f.bytes.drop 7).take 2 = bytesInt16 (if s.probes.riseValid then s.probes.rise else 0) ∧
      (f.bytes.drop 9).take 2 = bytes16 (s.probes.a.depth.getD 65535) ∧
      (f.bytes.drop 11).take 2 = bytes16 (min 4095 (ownDraw s)) ∧
      f.bytes[13]? = some (byteOf
        ((if fitted s.cfg .p1 then pumpStateCode (pumpOf s .p1).state else 15) * 16 +
         (if fitted s.cfg .p2 then pumpStateCode (pumpOf s .p2).state else 15))) ∧
      (f.bytes.drop 14).take 2 = bytes16 s.head.scale ∧
      (∃ b, f.bytes[16]? = some b ∧
        b.toNat / 16 = (if s.cfg.portal then gateStateCode s.gate.state else 15) ∧
        b.getLsbD 3 = (s.cfg.portal && s.inputs.key.level) ∧ b.getLsbD 2 = (s.cfg.portal && s.gate.holdClosed) ∧
        (b.getLsbD 1 = true ↔ ∃ r, (entryOf s r).pending = true ∧ (entryOf s r).budgetHeld = true) ∧
        b.getLsbD 0 = (s.cfg.portal && loopFault s)) ∧
      f.bytes[17]? = some (byteOf s.peers.seq)

/-- A CLAIM carries the served entry's requester, reason, level and surge draw; a BUSY in SURGE its requester,
reason and the surge time that remains in whole ms, 36864 tenths of a period to a ms, rounded down; a DONE the DONE
record; a REPORT the report record (R81, R108, R109, R115, Figures 6-6 and 10-1). -/
def Obligations.ArbiterFramesCarryTheClaim : Prop :=
  ∀ (k : TxKind) (n : Nat) (s : State), s.mode = .run → sendsNext s.link k n → gapPassed s.cfg s.link k n →
    ∃ t f, exec .transmissionBegin s = .next t ∧ t.link.onLine = some f ∧
      (∀ r q, k = .claim → servedOf s = some r → (entryOf s r).request = some q → (f.bytes.drop 3).take 4 =
        [byteOf (requesterCode r * 16 + reasonCode q.reason), byteOf q.level] ++ bytes16 (surgeDrawOf s r)) ∧
      (∀ r q, k = .busy → s.arb.claim = .surge → servedOf s = some r → (entryOf s r).request = some q →
        (f.bytes.drop 3).take 3 = [byteOf (requesterCode r * 16 + reasonCode q.reason)] ++
          bytes16 ((((match r with
            | .gate => s.cfg.tgsurge
            | .p1 => s.cfg.pump.p1.tsurge
            | .p2 => s.cfg.pump.p2.tsurge
            | .lamps => s.cfg.tlsurge) - s.arb.surge.count) * 36864 - s.div.msTenths) / 36864)) ∧
      (∀ d, k = .done → s.arb.done = some d → (f.bytes.drop 3).take 2 =
        [byteOf (requesterCode d.requester * 16 + reasonCode d.reason),
         match d.outcome with | .started => 0 | .abandoned => 1]) ∧
      (∀ d, k = .report → s.order = some d → (f.bytes.drop 3).take (3 + d.data.length) =
        [d.code, byteOf (resultCode d.result), if d.code = 1 then loByte d.arg.toNat else 0] ++ d.data)

/-- COLLISION counts and frees the line, whose idle time restarts where the line stands at mark; the frame goes back
to its slot with one more failed attempt, is discarded where a newer frame of its kind waits, and is dropped and
counted at the third failure (R24, R36, R37; a newer frame that was withdrawn does not count, log 32; both commands
are taken at any position of the frame, log 46). FRAME_SENT frees the line and restarts the idle time; a STATUS
advances the own sequence number (R24, R38, R44). With a CLAIM outside CLAIM_QUEUED, and with a DONE that no
selection follows, nothing else changes (R98, R102). -/
def Obligations.CollisionRetriesAndFrameSentFreesTheLine : Prop :=
  ∀ (f : TxFrame) (s : State), s.mode = .run → s.link.onLine = some f →
    let counters := { s.link.counters with collision := min 65535 (s.link.counters.collision + 1) }
    let freed := { s.link with
      onLine := none, idle := 0, idleCounting := s.link.rx == .look, counters := counters }
    let dropped := { freed with
      counters := { counters with txDropped := min 65535 (counters.txDropped + 1) } }
    let sent := { s.link with onLine := none, rx := .look, idle := 0, idleCounting := true }
    ((s.link.slots.get f.kind).isSome = true → exec .collision s = .next { s with link := freed }) ∧
    (s.link.slots.get f.kind = none → f.attempts < 2 → exec .collision s = .next { s with
      link := { freed with slots := s.link.slots.set f.kind (some (f.attempts + 1)) } }) ∧
    (s.link.slots.get f.kind = none → 2 ≤ f.attempts →
      f.kind = .status ∨ f.kind = .busy ∨ f.kind = .report ∨ (f.kind = .done ∧ s.arb.claim ≠ .idle) ∨
        (f.kind = .claim ∧ s.arb.claim ≠ .claimQueued) →
      exec .collision s = .next { s with link := dropped }) ∧
    (s.link.slots.get f.kind = none → 2 ≤ f.attempts → f.kind = .done → s.arb.claim = .idle →
      ∃ t, exec .collision s = .next t ∧ pumpFrame { s with link := dropped } t) ∧
    (f.kind = .status → exec .frameSent s = .next { s with
      link := sent, peers := { s.peers with seq := (s.peers.seq + 1) % 256 } }) ∧
    (f.kind = .busy ∨ f.kind = .report ∨ (f.kind = .done ∧ s.arb.claim ≠ .idle) ∨
        (f.kind = .claim ∧ s.arb.claim ≠ .claimQueued) →
      exec .frameSent s = .next { s with link := sent }) ∧
    (f.kind = .done → s.arb.claim = .idle →
      ∃ t, exec .frameSent s = .next t ∧ pumpFrame { s with link := sent } t)

/-- The report of the own CLAIM in CLAIM_QUEUED, "sent" or "dropped" after the third failure (at any
position of the frame, log 46). A claim whose entry
was cancelled while its CLAIM was on the line ends with DONE(ABANDONED), and its requester is told "abandoned"
(R102, R106). With the supply gone, a BUSY heard or a superior record in the claim list the station yields, with
DONE(ABANDONED) and its entry back to pending; otherwise the claim window opens (R102, R103, R104, R115). -/
def Obligations.ClaimReportOpensWindowOrYields : Prop :=
  ∀ (c : Instr) (f : TxFrame) (r : Requester) (q : Request) (s : State), s.mode = .run →
    s.link.onLine = some f → f.kind = .claim →
    (c = .frameSent ∨ (c = .collision ∧ s.link.slots.claim = none ∧ 2 ≤ f.attempts)) →
    s.arb.claim = .claimQueued → servedOf s = some r → (entryOf s r).request = some q →
    let yields := s.head.supply = .none ∨ s.arb.busyHeard = true ∨ (∃ x ∈ s.arb.claims,
      x.urgency < q.level ∨ (x.urgency = q.level ∧ x.station < s.cfg.station))
    let counters := { s.link.counters with
      collision := min 65535 (s.link.counters.collision + 1), txDropped := min 65535 (s.link.counters.txDropped + 1) }
    let freed := if c = .frameSent then { s.link with onLine := none, rx := .look, idle := 0, idleCounting := true }
      else { s.link with onLine := none, idle := 0, idleCounting := s.link.rx == .look, counters := counters }
    let ended := fun t : State => t.arb.claim = .idle ∧ t.arb.window = .cleared ∧ t.arb.cancelHeld = false ∧
      t.arb.busyHeard = false ∧ (entryOf t r).served = false ∧ t.arb.claims = s.arb.claims ∧
      t.arb.done = some { requester := r, reason := q.reason, outcome := .abandoned } ∧
      t.link.slots.done = some 0 ∧ t.link.slots.claim = none
    ∃ t, exec c s = .next t ∧ t.link = { freed with slots := t.link.slots } ∧
      (s.arb.cancelHeld = true → ended t ∧ t.link.slots.busy = none ∧
        (r = .gate → (entryOf t r).pending = false ∧ (entryOf t r).held = none)) ∧
      (s.arb.cancelHeld = false → yields → ended t ∧ t.lamps = s.lamps ∧
        (r = .gate ∨ r = .lamps → (entryOf t r).pending = true)) ∧
      (s.arb.cancelHeld = false → ¬yields → t = { s with
        link := freed, arb := { s.arb with claim := .claimWait, window := .fromZero } }) ∧
      t = { s with link := t.link, arb := t.arb, pumps := t.pumps, lamps := t.lamps }

/-- The own sequence number (R44): a STATUS carries it as its transmission begins, "sent" advances it modulo 256, a
cold reset clears it, a warm restart keeps it, and no other command changes it. -/
def Obligations.OwnSequenceNumber : Prop :=
  (∀ (c : Instr) (s t : State), exec c s = .next t →
    t.peers.seq = s.peers.seq ∨
    (c = .frameSent ∧ (∃ f, s.link.onLine = some f ∧ f.kind = .status) ∧ t.peers.seq = (s.peers.seq + 1) % 256) ∨
    (c = .coldReset ∧ t.peers.seq = 0)) ∧
  (∀ (f : TxFrame) (s t : State), s.mode = .run → s.link.onLine = some f → f.kind = .status →
    exec .frameSent s = .next t → t.peers.seq = (s.peers.seq + 1) % 256) ∧
  (∀ (n : Nat) (s t : State), s.mode = .run → sendsNext s.link .status n → gapPassed s.cfg s.link .status n →
    exec .transmissionBegin s = .next t →
    ∃ f, t.link.onLine = some f ∧ f.kind = .status ∧ f.bytes[17]? = some (byteOf s.peers.seq)) ∧
  (∀ s t : State, exec .collision s = .next t → t.peers.seq = s.peers.seq) ∧
  (∀ s t : State, exec .coldReset s = .next t → t.peers.seq = 0) ∧
  (∀ (arg : Half) (s t : State), exec (.restart arg) s = .next t → t.peers.seq = s.peers.seq)

/-! ### The Peer Table -/

/-- STATUS_PERIOD_EXPIRY restarts the timer, queues a STATUS, ages every peer by one and judges ISOLATED (R41, R47,
R49, R53). Where a freshness changes the stage is evaluated on the aged table and a change of it is handed on (R48,
R63-R67); where none does nothing else happens. -/
def Obligations.StatusPeriodAgesPeers : Prop :=
  ∀ s : State, s.mode = .run → s.peers.timer.phase = .running → ∃ t, exec .statusPeriodExpiry s = .next t ∧
    t.peers = { s.peers with
      timer := .fromZero, isolated := t.peers.isolated,
      entries := s.peers.entries.map fun e => { e with age := e.age.map fun n => if n < 255 then n + 1 else n } } ∧
    (t.peers.isolated = true ↔
      s.peers.entries ≠ [] ∧ ∀ e ∈ t.peers.entries, ∀ n, e.age = some n → 8 < n) ∧
    t.link = { s.link with slots := t.link.slots } ∧ t.link.slots.status = some 0 ∧
    ((∀ e ∈ s.peers.entries, e.age ≠ some 3 ∧ e.age ≠ some 8) → t = { s with
      peers := t.peers, link := { s.link with slots := { s.link.slots with status := some 0 } } }) ∧
    ((∃ e ∈ s.peers.entries, e.age = some 3 ∨ e.age = some 8) →
      StageFollows s { s with peers := t.peers } False t) ∧
    t = { s with
      peers := t.peers, link := t.link, stage := t.stage, gate := t.gate, lamps := t.lamps, pumps := t.pumps,
      arb := t.arb, head := { s.head with h := t.head.h } }

/-- STATUS_ARRIVAL of a peer gives its entry age 0 and the contents of the payload, counts the frames that its
sequence number shows missing, and judges ISOLATED (R30, R50, R51, R53, Figure 3-2); no other entry changes. The
stage is evaluated on the new contents and a change of it is handed on (R52, R63-R67). -/
def Obligations.StatusArrivalRefreshesPeer : Prop :=
  ∀ (sender : Nat) (payload : List Byte) (s : State), s.mode = .run → sender < 8 →
    s.cfg.roster.getLsbD sender = true → sender ≠ s.cfg.station → payload.length = 15 →
    let field := fun i => (payload.getD i 0).toNat * 256 + (payload.getD (i + 1) 0).toNat
    let seq := (payload.getD 14 0).toNat
    let contents : PeerContents := {
      depth := if field 2 ≤ 3000 then some (field 2) else none,
      rise := (BitVec.ofNat 16 (field 4)).toInt,
      draw := min 4095 (field 8),
      shed := (payload.getD 0 0).getLsbD 3,
      lag := (payload.getD 0 0).getLsbD 2,
      lastSeq := seq }
    ∃ t, exec (.statusArrival sender payload) s = .next t ∧
      t.peers = { s.peers with
        isolated := t.peers.isolated, seqGap := t.peers.seqGap,
        entries := s.peers.entries.map fun e =>
          if e.station = sender then { station := e.station, age := some 0, contents := some contents } else e } ∧
      (t.peers.isolated = true ↔
        s.peers.entries ≠ [] ∧ ∀ e ∈ t.peers.entries, ∀ n, e.age = some n → 8 < n) ∧
      (∀ e n c, s.peers.entries.find? (fun e => e.station == sender) = some e → e.age = some n → n ≤ 8 →
        e.contents = some c →
        t.peers.seqGap = min 65535 (s.peers.seqGap + ((seq + 256 - c.lastSeq) % 256 - 1))) ∧
      (∀ e, s.peers.entries.find? (fun e => e.station == sender) = some e →
        e.age = none ∨ e.contents = none ∨ (∃ n, e.age = some n ∧ 8 < n) →
        t.peers.seqGap = min 65535 s.peers.seqGap) ∧
      t.link = { heardLink s.link with slots := t.link.slots } ∧
      StageFollows s { s with peers := t.peers } False t ∧
      t = { s with
        peers := t.peers, link := t.link, stage := t.stage, gate := t.gate, lamps := t.lamps, pumps := t.pumps,
        arb := t.arb, head := { s.head with h := t.head.h } }

/-- A first STATUS, CLAIM, BUSY or DONE with the own number sets DUPLICATE and queues a STATUS (R54); a REPORT of a
station (R30) and an ORDER that is not this station's (R170) are counted and ignored. -/
def Obligations.OwnNumberSetsDuplicateAndOthersOnlyCount : Prop :=
  ∀ (sender : Nat) (payload : List Byte) (s : State), s.mode = .run →
    (sender < 8 → s.cfg.roster.getLsbD sender = true → sender = s.cfg.station → s.peers.duplicate = false →
      ∀ c, (c = .statusArrival sender payload ∧ payload.length = 15) ∨
        (c = .claimArrival sender payload ∧ payload.length = 4) ∨
        (c = .busyArrival sender payload ∧ payload.length = 3) ∨
        (c = .doneArrival sender payload ∧ payload.length = 2) →
      exec c s = .next { s with
        link := { heardLink s.link with slots := { s.link.slots with status := some 0 } },
        peers := { s.peers with duplicate := true } }) ∧
    (sender < 8 → s.cfg.roster.getLsbD sender = true → 3 ≤ payload.length → payload.length ≤ 24 →
      exec (.reportArrival sender payload) s = .next { s with link := heardLink s.link }) ∧
    (∀ target code arg, (sender = 15 ∧ target.toNat ≠ s.cfg.station) ∨
        (sender < 8 ∧ s.cfg.roster.getLsbD sender = true) →
      exec (.orderIgnored sender target code arg) s = .next { s with link := heardLink s.link })

/-- A further frame with the own number, while DUPLICATE is set, is counted under RX_OK and does nothing else: it
leaves DUPLICATE set and queues nothing (R55). -/
def Obligations.DuplicateStaysSet : Prop :=
  ∀ (sender : Nat) (payload : List Byte) (s : State), s.mode = .run → sender < 8 →
    s.cfg.roster.getLsbD sender = true → sender = s.cfg.station → s.peers.duplicate = true →
    ∀ c, (c = .statusArrival sender payload ∧ payload.length = 15) ∨
      (c = .claimArrival sender payload ∧ payload.length = 4) ∨
      (c = .busyArrival sender payload ∧ payload.length = 3) ∨
      (c = .doneArrival sender payload ∧ payload.length = 2) →
    exec c s = .next { s with link := heardLink s.link }

/-! ### The Stage Monitor -/

/-- STAGE_HOLD_EXPIRY evaluates the stage: it descends by one where the candidate is lower and conditions 3 and 4 of
R65 hold, stands in SERVED where they do not, and follows a candidate that is not lower (R61, R63-R65). A change of
the stage is handed on to the link, the start table, the gate, the pumps and the lamps (R67, R68, log 9); without
one nothing but the Stage Monitor changes. -/
def Obligations.StageHoldExpiryDescends : Prop :=
  ∀ s : State, s.mode = .run → s.stage.hold = .running → ∃ t, exec .stageHoldExpiry s = .next t ∧
    StageFollows s s True t ∧ (t.stage.stage = s.stage.stage → t = { s with stage := t.stage }) ∧
    t = { s with
      stage := t.stage, gate := t.gate, lamps := t.lamps, pumps := t.pumps, arb := t.arb,
      link := { s.link with slots := t.link.slots }, head := { s.head with h := t.head.h } }

/-- The candidate stage from the reports of this station and of its FRESH and STALE peers: FLOOD by depth alone,
ALERT by depth or rise rate, WET or DRY by depth, and WET or ALERT while no depth is known; the deepest of the
reports and the rise condition are what the evaluation uses (R47, R59, R60, R62, Figure 4-2). -/
def Obligations.CandidateStageFollowsReports : Prop :=
  ∀ s : State,
    let reported := fun d : Nat => s.probes.b.depth = some d ∨
      ∃ e ∈ s.peers.entries, ∃ n c, e.age = some n ∧ n ≤ 8 ∧ e.contents = some c ∧ c.depth = some d
    let rising := (s.probes.riseValid = true ∧ (s.cfg.rAlert : Int) ≤ s.probes.rise) ∨
      ∃ e ∈ s.peers.entries, ∃ n c, e.age = some n ∧ n ≤ 8 ∧ e.contents = some c ∧ (s.cfg.rAlert : Int) ≤ c.rise
    (∀ u, deepest s = some u ↔ reported u ∧ ∀ d, reported d → d ≤ u) ∧
    (deepest s = none ↔ ∀ d, ¬reported d) ∧ (riseCondition s = true ↔ rising) ∧
    (∀ u, reported u → (∀ d, reported d → d ≤ u) →
      (s.cfg.tFlood ≤ u → candidateStage s = .flood) ∧
      (u < s.cfg.tFlood → s.cfg.tAlert ≤ u ∨ rising → candidateStage s = .alert) ∧
      (u < s.cfg.tFlood → u < s.cfg.tAlert → ¬rising → s.cfg.tWet ≤ u → candidateStage s = .wet) ∧
      (u < s.cfg.tFlood → u < s.cfg.tAlert → ¬rising → u < s.cfg.tWet → candidateStage s = .dry)) ∧
    ((∀ d, ¬reported d) →
      (rising → candidateStage s = .alert) ∧ (¬rising → candidateStage s = .wet))

/-! ### The Headroom Unit -/

/-- The loss of the supply in RUN: from a state of the gate and the start table that the invariants hold, both
contactors are open and both pumps off duty, the gate motor is off, the lamps are DARK, no surge goes on, and a gate
on the move keeps its state, stopped by loss (R72, R73, R85, R104, R110, R134, R145, R166). -/
def Obligations.SupplyLossStopsEverything : Prop :=
  ∀ (line : SupplyLine) (s : State), s.mode = .run → GateInv s → ServedInv s → s.head.supply ≠ .none →
    (line = .mainsOk ∧ s.inputs.mainsOk.level = true ∧ s.inputs.standbyOk.level = false) ∨
      (line = .standbyOk ∧ s.inputs.standbyOk.level = true ∧ s.inputs.mainsOk.level = false) →
    ∃ t, exec (.supplySenseChange line false) s = .next t ∧
      t.head.supply = .none ∧ t.head.shedCapable = false ∧
      (∀ p, contactorClosed t p = false ∧ ((pumpOf t p).state = .off ∨ (pumpOf t p).state = .pending)) ∧
      t.gate.motor = .off ∧
      t.lamps.bank = .dark ∧ (∀ ch, t.lamps.computed.get ch = 0) ∧ t.lamps.test = .cleared ∧
      t.arb.claim ≠ .surge ∧ t.arb.claim ≠ .claimWait ∧ (s.arb.claim ≠ .claimQueued → t.arb.claim = .idle) ∧
      (s.cfg.portal = true → s.inputs.key.level = false → s.gate.state = .lowering ∨ s.gate.state = .raising →
        t.gate = { s.gate with
          motor := .off, stoppedByLoss := true, travel := { phase := .held, count := s.gate.travel.count } }) ∧
      t = { s with
        inputs := t.inputs, head := { s.head with supply := .none, shedCapable := false, h := t.head.h },
        lamps := t.lamps, gate := t.gate, pumps := t.pumps, arb := t.arb,
        link := { s.link with slots := t.link.slots } }

/-- A supply sense that changes without the loss of the supply in RUN, and any change outside RUN. With the mode of
supply unchanged only the input changes, and in RUN a change between MAINS and STANDBY judges shed-capable alone
(R72, R73, R85). The return of the supply in RUN posts RELIGHT, puts a watched pump with its thermal input asserted
in FAULT, and derives the state of a gate stopped by loss (R126, R134, R146, R163, R166). In START and FALLBACK a
loss opens the contactors, a return judges the thermal inputs of the pumps, in START of those with their contactor
open, and nothing else moves (section 7.8, R138, R175, R181; the judgement in START is log 29). -/
def Obligations.SupplyChangesAndReturns : Prop :=
  ∀ (line : SupplyLine) (b : Bool) (s : State),
    (match line with | .mainsOk => s.inputs.mainsOk.level | .standbyOk => s.inputs.standbyOk.level) = !b →
    let mains := match line with | .mainsOk => b | .standbyOk => s.inputs.mainsOk.level
    let standby := match line with | .mainsOk => s.inputs.standbyOk.level | .standbyOk => b
    let new : Supply := if mains then .mains else if standby then .standby else .none
    let inputs := match line with
      | .mainsOk => { s.inputs with mainsOk := .settled b }
      | .standbyOk => { s.inputs with standbyOk := .settled b }
    (new = s.head.supply → exec (.supplySenseChange line b) s = .next { s with inputs := inputs }) ∧
    (s.mode = .run → new ≠ s.head.supply → new ≠ .none → s.head.supply ≠ .none →
      exec (.supplySenseChange line b) s = .next { s with
        inputs := inputs,
        head := { s.head with
          supply := new,
          shedCapable := s.lamps.bank == .lit && decide (s.cfg.sMin < s.head.scale) &&
            decide (0 < fullLampDraw s) } }) ∧
    (s.mode = .run → s.head.supply = .none → new ≠ .none → ∃ t, exec (.supplySenseChange line b) s = .next t ∧
      t.inputs = inputs ∧ t.head.supply = new ∧
      (∀ p, fitted s.cfg p = true → thermalWatched (pumpOf s p).state = true →
        (s.inputs.thermal.get p).level = true →
        (pumpOf t p).state = .fault ∧ (pumpOf t p).cause = some .thermal) ∧
      (heldOnlyServed s → (entryOf s .lamps).armed = true → (entryOf s .lamps).served = false →
        ((entryOf t .lamps).pending = true ∨ (entryOf t .lamps).served = true) ∧ (entryOf t .lamps).armed = false ∧
        (entryOf t .lamps).request = some { reason := .relight, level := s.cfg.lvRelight, trigger := .edge } ∧
        (s.arb.listenIn ≠ .elapsed → s.arb.claim = .idle → (entryOf t .lamps).pending = true)) ∧
      (s.cfg.portal = true → s.gate.stoppedByLoss = true → s.inputs.key.level = false →
        t.gate.stoppedByLoss = false ∧
        t.gate.state = (if s.inputs.limUp.level && s.inputs.limDown.level then .fault
          else if s.inputs.limUp.level then
            (if (s.stage.stage == .flood && s.cfg.autoClose) || s.gate.closeOrder || s.gate.holdClosed then .warning
             else .atOpen)
          else if s.inputs.limDown.level then .closed
          else if s.stage.stage == .flood || s.gate.holdClosed then .warning
          else .raisePending)) ∧
      (s.gate.stoppedByLoss = false ∨ s.cfg.portal = false → t.gate = s.gate) ∧
      t = { s with
        inputs := t.inputs, head := { s.head with supply := new, shedCapable := t.head.shedCapable, h := t.head.h },
        lamps := t.lamps, gate := t.gate, pumps := t.pumps, arb := t.arb,
        link := { s.link with slots := t.link.slots } }) ∧
    (s.mode ≠ .run → new ≠ s.head.supply → ∃ t, exec (.supplySenseChange line b) s = .next t ∧
      (new = .none → ∀ p, contactorClosed t p = false ∧
        pumpOf t p = (if contactorClosed s p then { State.reset.pumps.pump.get p with
          exercise := (pumpOf t p).exercise } else pumpOf s p)) ∧
      (s.head.supply = .none → ∀ p, fitted s.cfg p = true → thermalWatched (pumpOf s p).state = true →
        (s.inputs.thermal.get p).level = true → s.mode = .fallback ∨ contactorClosed s p = false →
        pumpOf t p = faultedPump .thermal) ∧
      (s.mode = .start → new ≠ .none → ∀ p, contactorClosed s p = true → pumpOf t p = pumpOf s p) ∧
      (new ≠ .none → (s.head.supply ≠ .none ∨ ∀ p, (s.inputs.thermal.get p).level = false) →
        t = { s with inputs := inputs, head := { s.head with supply := new } }) ∧
      t = { s with
        inputs := inputs, head := { s.head with supply := new }, pumps := t.pumps, arb := t.arb,
        link := { s.link with slots := t.link.slots } })

/-- BUDGET_TIMER_EXPIRY restarts the timer and takes one step on the headroom of the moment: the shed step dims by
this station's share, the lag-shed step stops the later of two running pumps, the recovery step raises the scale;
with the supply mode NONE no step is taken (R78-R80, R83-R88, R133). -/
def Obligations.BudgetEvaluationStepsScale : Prop :=
  ∀ s : State, s.mode = .run → s.head.timer.phase = .running → ∃ t, exec .budgetTimerExpiry s = .next t ∧
    (let h := headroomOf s
     let capable := (if shedCondition s then 1 else 0) + ((usablePeers s).filter PeerContents.shed).length
     let full := fullLampDraw s
     t.head = { s.head with
       timer := .fromZero, shedCapable := t.head.shedCapable, h := t.head.h, scale :=
         if s.head.supply = .none then s.head.scale
         else if h < 0 then
           (if shedCondition s then
              max s.cfg.sMin (s.head.scale - ceilDiv (ceilDiv (-h).toNat capable * 256) full)
            else s.head.scale)
         else if (s.cfg.mr : Int) ≤ h ∧ s.head.scale < 256 ∧
             (ceilDiv (full * s.cfg.sStep) 256 : Int) ≤ h - s.cfg.mr then
           min 256 (s.head.scale + s.cfg.sStep)
         else s.head.scale } ∧
     t.head.shedCapable = shedCondition t ∧
     (∀ p, h < 0 → s.head.supply ≠ .none → capable = 0 → lagRunning s = true → s.pumps.later = some p →
       (pumpOf s p).reason ≠ some .float →
       (∀ e ∈ s.peers.entries, ∀ c, usableContents e = some c → s.cfg.station < e.station → c.lag = false) →
       (pumpOf t p).state ≠ .running ∧ (pumpOf t p).state ≠ .surging)) ∧
    (∀ ch, (s.cfg.channel.get ch).role = 1 → s.lamps.bank = .lit → s.lamps.test.phase ≠ .running →
      t.head.scale ≠ s.head.scale → t.lamps.computed.get ch = activeTarget s ch * t.head.scale / 256) ∧
    t = { s with
      head := t.head, lamps := { s.lamps with computed := t.lamps.computed }, pumps := t.pumps, arb := t.arb,
      link := { s.link with slots := t.link.slots } }

/-- The headroom that a budget evaluation stores (R78-R80), unless a start test that follows it stores the headroom of
its own moment (R80, R84), written out from the draws (R72, R74-R77): a pump draws
its surge draw in SURGING and its running draw in RUNNING; the gate motor its surge draw in its surge and its
running draw while it is driven; a lit lamp channel its share of the full draw by its duty, the lamps relighting
their surge draw. Each FRESH or STALE peer counts what it last reported and each LOST peer A_lost; an ISOLATED
station has its share of the capacity instead. The surge draws of the requesters (R81) and the full draw of the
NORMAL channels (R85) follow the same figures. -/
def Obligations.HeadroomIsCapacityLessDraws : Prop :=
  ∀ s : State,
    let up := fun (n k : Nat) => (n + (k - 1)) / k
    let pumpSurge := fun p => up ((s.cfg.pump.get p).prun * (s.cfg.pump.get p).ks) 8
    let pump := fun p => match (pumpOf s p).state with
      | .surging => pumpSurge p
      | .running => (s.cfg.pump.get p).prun
      | .off | .pending | .claiming | .resting | .fault | .inhibited => 0
    let gateSurge := up (s.cfg.pgate * s.cfg.kg) 8
    let gate := if s.cfg.portal = false then 0
      else if (s.arb.claim = .surge ∧ (entryOf s .gate).served = true) ∨ s.gate.localSurge.phase = .running
      then gateSurge
      else if s.gate.motor = .off then 0 else s.cfg.pgate
    let target := fun ch => if s.cfg.portal = true ∧ s.inputs.daylight.level = true
      then (s.cfg.channel.get ch).boostTarget else (s.cfg.channel.get ch).normalTarget
    let draw := fun ch (duty : Nat) => up ((s.cfg.channel.get ch).lfull * duty) 4095
    let normal := fun ch => (s.cfg.channel.get ch).role = 1
    let warning := fun ch => (s.cfg.channel.get ch).role = 2
    let sum := fun (f : ChannelId → Nat) => f .ch0 + f .ch1 + f .ch2 + f .ch3
    let flashes := s.stage.stage = .alert ∨ s.stage.stage = .flood ∨ (s.cfg.portal = true ∧
      (s.gate.state = .warning ∨ s.gate.state = .holding ∨ s.gate.state = .lowerPending ∨
        s.gate.state = .lowering ∨ s.gate.state = .lowerPaused))
    let lampSurge := up (sum (fun ch => draw ch
      (if normal ch then target ch * s.head.scale / 256 else if warning ch ∧ flashes then target ch else 0)) *
      s.cfg.kl) 8
    let lamps := match s.lamps.bank with
      | .dark => 0
      | .relighting => lampSurge
      | .lit => sum fun ch => draw ch
          (if s.lamps.test.phase = .running then (if normal ch ∨ warning ch then 4095 else 0)
           else if normal ch then s.lamps.computed.get ch
           else if warning ch ∧ s.lamps.warning = true then target ch else 0)
    let own : Int := pump .p1 + pump .p2 + gate + lamps
    let capacity := match s.head.supply with
      | .mains => s.cfg.cMains
      | .standby => s.cfg.cStandby
      | .none => 0
    let heard := fun (e : PeerEntry) => match e.age with
      | some n => decide (n ≤ 8)
      | none => false
    let peers := ((s.peers.entries.filter heard).map fun e => (e.contents.map PeerContents.draw).getD 0).sum
    let lost := (s.peers.entries.filter fun e => !heard e).length
    let roster := ((List.range 8).filter fun k => s.cfg.roster.getLsbD k).length
    let h := max (-4095) (min 4095
      (if s.peers.isolated then (((capacity - s.cfg.margin) / roster : Nat) : Int) - own
       else (capacity : Int) - s.cfg.margin - own - peers - s.cfg.aLost * lost))
    (s.mode = .run → s.head.timer.phase = .running → s.arb.listenIn ≠ .elapsed → s.arb.claim = .idle →
      ∃ t, exec .budgetTimerExpiry s = .next t ∧ t.head.h = h) ∧
    (s.mode = .run → s.head.timer.phase = .running →
      s.arb.listenIn ≠ .elapsed ∨ s.arb.claim ≠ .idle ∨ s.arb.claims ≠ [] ∨ doneInFlight s = true ∨
        (∀ r, (entryOf s r).pending = false) →
      s.head.supply = .none ∨ 0 ≤ h ∨ lagRunning s = false →
      ∃ t, exec .budgetTimerExpiry s = .next t ∧ t.head.h = h) ∧
    (s.mode = .run → s.head.timer.phase = .running →
      ∃ t, exec .budgetTimerExpiry s = .next t ∧ (t.head.h = h ∨ t.head.h = headroomOf t)) ∧
    headroomOf s = h ∧
    (∀ r, surgeDrawOf s r = match r with
      | .gate => gateSurge
      | .p1 => pumpSurge .p1
      | .p2 => pumpSurge .p2
      | .lamps => lampSurge) ∧
    fullLampDraw s = sum fun ch => if normal ch then draw ch (target ch) else 0

/-! ### The Start Arbiter -/

/-- The end of the listen-in time attempts a selection (R97-R100): with no claim of its own or a peer's and no DONE
in flight, the first candidate by level and tie order whose surge draw the headroom bears is served, with its CLAIM
queued, and the headroom of the tests is stored (R80); with none, every candidate is held for the budget; otherwise
the timer stands elapsed and nothing else changes. That a served entry is no longer pending is log 7. -/
def Obligations.ListenInExpirySelects : Prop :=
  ∀ s : State, s.mode = .run → s.arb.listenIn = .running → ∃ t, exec .listenInExpiry s = .next t ∧
    t.arb.listenIn = .elapsed ∧
    (let may := s.arb.claim = .idle ∧ s.arb.claims = [] ∧ s.link.slots.done = none ∧
       (∀ f, s.link.onLine = some f → f.kind ≠ .done)
     let candidate := fun r => (entryOf s r).pending = true ∧ masked s r = false
     let passes := fun r => s.head.supply ≠ .none ∧ (surgeDrawOf s r : Int) ≤ headroomOf s
     let before := fun q r => entryLevel (entryOf s q) < entryLevel (entryOf s r) ∨
       (entryLevel (entryOf s q) = entryLevel (entryOf s r) ∧ requesterCode q < requesterCode r)
     (¬may → t = { s with arb := { s.arb with listenIn := .elapsed, listenCount := 3 * (s.cfg.tstat * 50) } }) ∧
     (may → ∀ r, candidate r → passes r → (∀ q, candidate q → before q r → ¬passes q) →
       t.arb.claim = .claimQueued ∧ (entryOf t r).served = true ∧ (entryOf t r).pending = false ∧
       (entryOf t r).budgetHeld = false ∧ t.link.slots.claim = some 0 ∧
       (∀ q, candidate q → before q r → (entryOf t q).budgetHeld = true)) ∧
     (may → (∃ r, candidate r) → t.head.h = headroomOf s) ∧
     ((∀ r, ¬candidate r) → t.head.h = s.head.h ∧ t.arb.claim = s.arb.claim) ∧
     (may → (∀ r, candidate r → ¬passes r) → t.arb.claim = .idle ∧
       ∀ r, candidate r → (entryOf t r).budgetHeld = true)) ∧
    t = { s with
      arb := t.arb, pumps := t.pumps, link := { s.link with slots := t.link.slots },
      head := { s.head with h := t.head.h } }

/-- CLAIM_WINDOW_EXPIRY begins the surge of a requester that still wants its start, and the requester acts on "surge
start"; otherwise the claim is abandoned with DONE(ABANDONED) (R7, R107, R108, R115, R123, R146, R158, R161). A pump
wants its start while its DEMAND or HANDOVER condition holds and for EXERCISE; that the request its entry holds
counts as well as the served one is the model's choice (log 19). The gate wants it in LOWER_PENDING and
RAISE_PENDING, the lamps while relight is needed (R107). -/
def Obligations.ClaimWindowBeginsSurge : Prop :=
  ∀ (r : Requester) (q : Request) (s : State),
    let stands := fun p (x : Reason) => (x = .demand ∧ called s p = true) ∨
      (x = .handover ∧ (pumpOf s p.other).state = .running ∧ (pumpOf s p.other).relief = true ∧
        called s p.other = true) ∨ x = .exercise
    let pumpWants := fun p => stands p q.reason ∨ ∃ x, (entryOf s r).held = some x ∧ stands p x.reason
    let wants := match r with
      | .p1 => pumpWants .p1
      | .p2 => pumpWants .p2
      | .gate => s.gate.state = .lowerPending ∨ s.gate.state = .raisePending
      | .lamps => s.lamps.bank ≠ .lit
    s.mode = .run → s.arb.claim = .claimWait → servedOf s = some r →
    (entryOf s r).request = some q → ∃ t, exec .claimWindowExpiry s = .next t ∧
      (wants →
        t.arb = { s.arb with
          claim := .surge, window := .cleared, surge := .fromZero, table := t.arb.table } ∧
        (entryOf t r).served = true ∧ t.link = { s.link with slots := t.link.slots } ∧
        t.link.slots.claim = none ∧
        (∀ p, t.probes.get p = { s.probes.get p with
          blank := (s.probes.get p).blank || (s.probes.get p).phase == .charge }) ∧
        (∀ p, r = pumpRequester p → (pumpOf s p).state = .claiming →
          (pumpOf t p).state = .surging ∧ contactorClosed t p = true ∧ (pumpOf t p).exercise = .cleared ∧
          (pumpOf t p).reason = some (match q.reason with
            | .handover => .handover | .exercise => .exercise
            | .demand | .lower | .raise | .relight => .demand)) ∧
        (r = .gate → s.gate.state = .lowerPending → t.gate.state = .lowering ∧ t.gate.motor = .down ∧
          t.gate.travel = { phase := .running, count := s.gate.travel.count }) ∧
        (r = .gate → s.gate.state = .raisePending →
          t.gate.state = .raising ∧ t.gate.motor = .up ∧ t.gate.travel = .fromZero) ∧
        (r = .lamps → s.lamps.bank = .dark → t.lamps.bank = .relighting)) ∧
      (¬wants →
        t.arb.claim = .idle ∧ t.arb.window = .cleared ∧ (entryOf t r).served = false ∧
        t.arb.done = some { requester := r, reason := q.reason, outcome := .abandoned } ∧
        t.link.slots.done = some 0 ∧ t.link.slots.claim = none) ∧
      t = { s with
        arb := t.arb, link := { s.link with slots := t.link.slots }, probes := t.probes, pumps := t.pumps,
        lamps := t.lamps, gate := t.gate }

/-- SURGE_TIMER_EXPIRY ends the claim with DONE(STARTED), a reasserted CLAIM in its slot withdrawn with it (R103,
R110, R115): the lamps are LIT, the gate runs on, and a pump is in FAULT NO_RUN without its run-sense (R123, R125,
R146). With it the pump runs: for EXERCISE, with its exercise time begun (R130); for DEMAND and HANDOVER where it is
called, and a pump that is called no more stops (R122); and a handover completes where one pump is wanted, with the
relieved pump resting and the lead designation passed, and ends as DEMAND where two are (R124, R128, R129). The
requester acts once its mark has cleared (log 33). -/
def Obligations.SurgeTimerEndsClaim : Prop :=
  ∀ (r : Requester) (q : Request) (s : State), s.mode = .run → s.arb.claim = .surge → servedOf s = some r →
    (entryOf s r).request = some q → ∃ t, exec .surgeTimerExpiry s = .next t ∧
      t.arb.claim = .idle ∧ t.arb.surge = .cleared ∧ (entryOf t r).served = false ∧
      t.arb.done = some { requester := r, reason := q.reason, outcome := .started } ∧
      t.link = { s.link with slots := t.link.slots } ∧ t.link.slots.done = some 0 ∧ t.link.slots.busy = none ∧
      t.link.slots.claim = none ∧
      t.gate = s.gate ∧ (r = .lamps → s.lamps.bank = .relighting → t.lamps.bank = .lit) ∧
      (∀ p, r = pumpRequester p → (pumpOf s p).state = .surging → (pumpOf s p).reason ≠ some .float →
        let o := p.other
        let takesDemand := (pumpOf s o).state = .running ∧ called s o = true ∧
          ((pumpOf s o).reason = some .exercise ∨
            ((pumpOf s o).reason = some .float ∧ s.inputs.float.level = false))
        let runs := fun reason => (pumpOf t p).state = .running ∧ (pumpOf t p).reason = some reason ∧
          (pumpOf t p).runPhase = .run ∧ (pumpOf t p).run = .fromZero ∧ contactorClosed t p = true
        ((s.inputs.runSense.get p).level = false → pumpOf t p = faultedPump .noRun) ∧
        ((s.inputs.runSense.get p).level = true → (pumpOf s p).relief = false →
          ((pumpOf s p).reason = some .exercise →
            (pumpOf t p).state = .running ∧ (pumpOf t p).run = .fromZero) ∧
          ((∀ i, (s.inputs.thermal.get i).level = false) →
            ((pumpOf s p).reason = some .exercise →
              (called s p = true → runs .demand) ∧
              (called s p = false → (pumpOf s o).relief = false →
                (¬takesDemand → runs .exercise ∧ (pumpOf t p).exercise = .fromZero) ∧
                (takesDemand → runs .exercise ∨ runs .handover))) ∧
            ((pumpOf s p).reason = some .demand ∨ (pumpOf s p).reason = some .handover → wantedCount s = 0 →
              (pumpOf t p).state = .off ∧ contactorClosed t p = false) ∧
            (∀ reason, (pumpOf s p).reason = some reason → reason = .demand ∨ (reason = .handover ∧
                ¬((pumpOf s o).state = .running ∧ (pumpOf s o).relief = true)) →
              (called s p = true → runs reason) ∧
              (called s p = false → contactorClosed t p = false ∧
                (¬((pumpOf s o).state = .running ∧ (pumpOf s o).relief = true) → ¬takesDemand →
                  (pumpOf t p).state = .off))) ∧
            ((pumpOf s p).reason = some .handover → (pumpOf s o).state = .running → (pumpOf s o).relief = true →
              fitted s.cfg p = true → fitted s.cfg o = true →
              (wantedCount s = 1 → runs .handover ∧ t.pumps.lead = p ∧ contactorClosed t o = false ∧
                (restLimitMs s.cfg o ≠ 0 → (pumpOf t o).state = .resting ∧ (pumpOf t o).runPhase = .rest ∧
                  (pumpOf t o).run = .fromZero ∧ (pumpOf t o).relief = false) ∧
                (restLimitMs s.cfg o = 0 → (pumpOf t o).state = .off)) ∧
              (wantedCount s = 2 → runs .demand ∧ contactorClosed t o = true ∧
                (reliefOnlyRunning s → pumpOf t o = pumpOf s o)))))) ∧
      t = { s with
        arb := t.arb, link := t.link, pumps := t.pumps, lamps := t.lamps,
        head := { s.head with shedCapable := t.head.shedCapable } }

/-- Substitution by the gate's RAISE (R105), at the reopen time of a CLOSED gate, whose RAISE becomes pending while
another entry of a greater level is served in CLAIM_QUEUED or CLAIM_WAIT: with its start test passed the gate takes
the served mark, the claim, its window and its slot go on, and the entry that loses the mark returns to pending with
its requester told so, or ends where it had been cancelled and holds no other request (log 18; the gate's entry,
once served, is not pending, log 7); with the test failed the gate's entry is held for the budget and nothing else
changes (R80, R82, R96). -/
def Obligations.SubstitutionMovesServedMark : Prop :=
  ∀ (o : Requester) (q : Request) (s : State), s.mode = .run → s.cfg.portal = true → ServedInv s →
    s.gate.reopen.phase = .running → s.gate.state = .closed → s.gate.holdClosed = false →
    s.inputs.key.level = false → s.arb.claim = .claimQueued ∨ s.arb.claim = .claimWait → servedOf s = some o →
    o ≠ .gate → (entryOf s o).request = some q →
    (entryOf s .gate).armed = true → (entryOf s .gate).pending = false → (entryOf s .gate).mask = false →
    s.cfg.lvRaise ≤ stageFloor s.stage.stage → s.cfg.lvRaise < q.level →
    (∀ x, (entryOf s o).held = some x → s.cfg.lvRaise < x.level) →
    (o = .lamps ∨ ∃ p, o = pumpRequester p ∧
      (((pumpOf s p).state = .claiming ∧ q.reason = .demand ∧ called s p = true ∧ (entryOf s o).held = none ∧
          s.arb.cancelHeld = false) ∨
        (pumpOf s p).state = .fault ∨ (pumpOf s p).state = .inhibited)) →
    ∃ t, exec .reopenTimerLimit s = .next t ∧
      (let raise : Request := { reason := .raise, level := s.cfg.lvRaise, trigger := .edge }
       t.gate.state = .raisePending ∧ t.head.h = headroomOf t ∧
       t.arb = { s.arb with table := t.arb.table, cancelHeld := t.arb.cancelHeld } ∧
       (entryOf t .gate).request = some raise ∧ (entryOf t .gate).armed = false ∧
       t.link = { s.link with slots := { s.link.slots with status := some 0 } } ∧
       (s.head.supply ≠ .none ∧ (surgeDrawOf s .gate : Int) ≤ t.head.h →
         (entryOf t .gate).served = true ∧ (entryOf t .gate).pending = false ∧ (entryOf t o).served = false ∧
         t.arb.cancelHeld = false ∧
         (s.arb.cancelHeld = false ∨ (entryOf s o).held ≠ none →
           (entryOf t o).pending = true ∧ (entryOf t o).request = some ((entryOf s o).held.getD q)) ∧
         (s.arb.cancelHeld = true → (entryOf s o).held = none →
           (entryOf t o).pending = false ∧ (entryOf t o).request = none) ∧
         (∀ p, o = pumpRequester p → (pumpOf s p).state = .claiming → (pumpOf t p).state = .pending)) ∧
       (s.head.supply = .none ∨ t.head.h < (surgeDrawOf s .gate : Int) →
         (entryOf t .gate).served = false ∧ (entryOf t .gate).pending = true ∧
         (entryOf t .gate).budgetHeld = true ∧ entryOf t o = entryOf s o ∧ t.arb.cancelHeld = s.arb.cancelHeld ∧
         t.pumps = s.pumps)) ∧
      gateFrame s t

/-- CLAIM_ARRIVAL of a peer records the claim in place of the peer's earlier one, and acts by the own claim state:
in IDLE nothing more, in SURGE a BUSY is queued, in CLAIM_WAIT the station yields to a superior claim and queues its
own again for an inferior one, compared by the record with its urgency of at most 7 (log 40), in CLAIM_QUEUED a
CLAIM in its slot is withdrawn with no DONE (R30, R101, R103, R109, R112). -/
def Obligations.ClaimArrivalRecordsAndYields : Prop :=
  ∀ (sender : Nat) (payload : List Byte) (s : State), s.mode = .run → sender < 8 →
    s.cfg.roster.getLsbD sender = true → sender ≠ s.cfg.station → payload.length = 4 →
    let record : ClaimRecord := {
      station := sender, requester := (payload.getD 0 0).toNat / 16, reason := (payload.getD 0 0).toNat % 16,
      urgency := min 7 (payload.getD 1 0).toNat,
      sd := (payload.getD 2 0).toNat * 256 + (payload.getD 3 0).toNat, holder := 0 }
    ∃ t, exec (.claimArrival sender payload) s = .next t ∧
      (∀ x, x ∈ t.arb.claims ↔ x = record ∨ (x ∈ s.arb.claims ∧ x.station ≠ sender)) ∧
      t = { s with
        link := { heardLink s.link with slots := t.link.slots }, arb := t.arb, pumps := t.pumps, lamps := t.lamps } ∧
      (s.arb.claim = .idle →
        t = { s with link := heardLink s.link, arb := { s.arb with claims := t.arb.claims } }) ∧
      (s.arb.claim = .surge → t = { s with
        link := { heardLink s.link with slots := { s.link.slots with busy := some 0 } },
        arb := { s.arb with claims := t.arb.claims } }) ∧
      (∀ r q, s.arb.claim = .claimWait → servedOf s = some r → (entryOf s r).request = some q →
        (record.urgency < q.level ∨ (record.urgency = q.level ∧ sender < s.cfg.station) →
          t.arb.claim = .idle ∧ (entryOf t r).served = false ∧ t.link.slots.done = some 0 ∧
          t.link.slots.claim = none ∧
          t.arb.done = some { requester := r, reason := q.reason, outcome := .abandoned }) ∧
        (q.level < record.urgency ∨ (record.urgency = q.level ∧ s.cfg.station < sender) →
          t = { s with
            link := { heardLink s.link with slots := { s.link.slots with claim := some 0 } },
            arb := { s.arb with claims := t.arb.claims } })) ∧
      (∀ r, s.arb.claim = .claimQueued → servedOf s = some r →
        (s.link.slots.claim.isSome = true → t.arb.claim = .idle ∧ (entryOf t r).served = false ∧
          t.link.slots.claim = none ∧ t.link.slots.done = s.link.slots.done ∧ t.arb.done = s.arb.done) ∧
        (s.link.slots.claim = none →
          t = { s with link := heardLink s.link, arb := { s.arb with claims := t.arb.claims } }))

/-- BUSY_ARRIVAL of a peer refreshes or makes its record with urgency 0, in CLAIM_WAIT the station yields, and in
CLAIM_QUEUED it withdraws its CLAIM with no DONE, or notes the BUSY where the CLAIM is on the line (R30, R101, R104,
R113); DONE_ARRIVAL and HOLDER_TIMEOUT remove the record, with no more to follow while a record is left or a claim
of the station's own stands (R30, R98, R114). -/
def Obligations.BusyRefreshesAndDoneRemoves : Prop :=
  ∀ (sender : Nat) (payload : List Byte) (s : State), s.mode = .run → sender < 8 →
    s.cfg.roster.getLsbD sender = true → sender ≠ s.cfg.station →
    (payload.length = 3 → ∃ t, exec (.busyArrival sender payload) s = .next t ∧
      (∀ x, x ∈ t.arb.claims ↔ (x.station ≠ sender ∧ x ∈ s.arb.claims) ∨
        x = { station := sender, requester := (payload.getD 0 0).toNat / 16,
              reason := (payload.getD 0 0).toNat % 16, urgency := 0, holder := 0,
              sd := ((s.arb.claims.find? fun c => c.station == sender).map ClaimRecord.sd).getD 0 }) ∧
      t = { s with
        link := { heardLink s.link with slots := t.link.slots }, arb := t.arb, pumps := t.pumps, lamps := t.lamps } ∧
      (s.arb.claim = .idle ∨ s.arb.claim = .surge →
        t = { s with link := heardLink s.link, arb := { s.arb with claims := t.arb.claims } }) ∧
      (∀ r q, s.arb.claim = .claimWait → servedOf s = some r → (entryOf s r).request = some q →
        t.arb.claim = .idle ∧ (entryOf t r).served = false ∧ t.link.slots.done = some 0 ∧
        t.arb.done = some { requester := r, reason := q.reason, outcome := .abandoned }) ∧
      (∀ r, s.arb.claim = .claimQueued → servedOf s = some r →
        (s.link.slots.claim.isSome = true → t.arb.claim = .idle ∧ t.arb.busyHeard = false ∧
          (entryOf t r).served = false ∧ t.link.slots.claim = none ∧ t.link.slots.done = s.link.slots.done ∧
          t.arb.done = s.arb.done) ∧
        (s.link.slots.claim = none → t = { s with
          link := heardLink s.link, arb := { s.arb with claims := t.arb.claims, busyHeard := true } }))) ∧
    (let left := s.arb.claims.filter fun c => c.station != sender
     (payload.length = 2 → ∃ t, exec (.doneArrival sender payload) s = .next t ∧ t.arb.claims = left ∧
       pumpFrame { s with link := heardLink s.link } t ∧
       (left ≠ [] ∨ s.arb.claims = [] ∨ s.arb.claim ≠ .idle →
         t = { s with link := heardLink s.link, arb := { s.arb with claims := left } })) ∧
     ((∃ x ∈ s.arb.claims, x.station = sender) → ∃ t, exec (.holderTimeout sender) s = .next t ∧
       t.arb.claims = left ∧ pumpFrame s t ∧
       (left ≠ [] ∨ s.arb.claim ≠ .idle → t = { s with arb := { s.arb with claims := left } })))

/-! ### The pumps -/

/-- The Pump Controller follows the depths, the stage and the demand. A pump is called where it is available and
both pumps are wanted, or one is and it is the lead or its partner is not available (R121). At a reading that
changes the sump depth, or the roadway depth while the sump depth is UNKNOWN, and at a change of the stage, the
latches are judged (R119, R120) and the pumps act on their calls (R122). Until then a pump that a warm restart has
left RUNNING runs on, whatever limit or timer expires (R138; the moment of its judgement is log 20). -/
def Obligations.PumpsFollowLatchesAndCalls : Prop :=
  (∀ (p : PumpId) (s : State),
    let serves := fun p => fitted s.cfg p = true ∧ (pumpOf s p).state ≠ .resting ∧ (pumpOf s p).state ≠ .fault ∧
      (pumpOf s p).state ≠ .inhibited
    called s p = true ↔ s.mode = .run ∧ serves p ∧ (s.pumps.lagDemand = true ∨
      (s.pumps.leadDemand = true ∧ (s.pumps.lead = p ∨ ¬serves p.other)))) ∧
  (∀ (c : Instr) (s : State), s.mode = .run →
    ((((∃ x, c = .probeTrip x) ∨ c = .probeOverflow) ∧ (s.probes.a.phase = .charge ∨ s.probes.b.phase = .charge)) ∨
      (c = .stageHoldExpiry ∧ s.stage.hold = .running)) →
    ∃ t, exec c s = .next t ∧
      (t.probes.a.depth ≠ s.probes.a.depth ∨
          (s.probes.a.depth = none ∧ t.probes.b.depth ≠ s.probes.b.depth) ∨ t.stage.stage ≠ s.stage.stage →
        let u := { s with probes := t.probes, stage := t.stage }
        let v := { u with pumps := { s.pumps with
          leadDemand := t.pumps.leadDemand, lagDemand := t.pumps.lagDemand } }
        LatchesJudged u t.pumps.leadDemand t.pumps.lagDemand ∧
          (heldOnlyServed s → PumpRequestsInv s → pumpsQuiet v → PumpsActed v t))) ∧
  (∀ (c : Instr) (p : PumpId) (s : State), s.mode = .run →
    (∃ i, c = .runLimitExpiry i ∨ c = .restLimitExpiry i ∨ c = .exerciseDue i ∨ c = .thermalReleaseExpiry i) →
    s.pumps.leftRunning.get p = true → (pumpOf s p).state = .running → called s p = false →
    (pumpOf s p).reason = some .demand ∨ (pumpOf s p).reason = some .handover →
    ∃ t, exec c s = .next t ∧ (pumpOf t p).state = .running ∧ (pumpOf t p).reason = (pumpOf s p).reason ∧
      contactorClosed t p = true ∧ t.pumps.leftRunning.get p = true)

/-- A run-sense input that changes starts the run-sense timer of a RUNNING pump, or clears it, and nothing else; that
it does so in START too, where the timer does not count, is the model's choice (log 23). At
the timer's expiry the pump is in FAULT with cause RUN_LOST, its contactor open and its timers cleared, and the lead
designation has passed to a partner in service (R124, R125, R127). -/
def Obligations.RunSenseWatchesRunning : Prop :=
  ∀ (p : PumpId) (b : Bool) (s : State),
    ((s.inputs.runSense.get p).level = !b → exec (.runSenseChange p b) s = .next { s with
      inputs := { s.inputs with runSense := s.inputs.runSense.upd p fun _ => .settled b },
      pumps := { s.pumps with pump := s.pumps.pump.upd p fun q =>
        if q.state = .running then { q with runSense := if b then .cleared else .fromZero } else q } }) ∧
    (s.mode ≠ .start → (pumpOf s p).state = .running → (pumpOf s p).runSense.phase = .running →
      ∃ t, exec (.runSenseTimerExpiry p) s = .next t ∧ pumpOf t p = faultedPump .runLost ∧
        contactorClosed t p = false ∧
        (s.pumps.lead = p → fitted s.cfg p.other = true → (pumpOf s p.other).state ≠ .fault →
          (pumpOf s p.other).state ≠ .inhibited → (s.inputs.thermal.get p.other).level = false →
          t.pumps.lead = p.other) ∧
        pumpFrame s t)

/-- A thermal input asserted puts a watched pump in FAULT with cause THERMAL while the supply lasts (R126, R127); in
START that is so of a pump with its contactor open, and one left running stands until the entry to RUN or FALLBACK
(R138, R175; the model's choice, log 29). In FAULT with cause THERMAL its release starts the release timer,
outside START, and a new assertion clears it (R126, R138); at the timer's expiry the pump is out of FAULT with its
contactor open. -/
def Obligations.ThermalInputFaultsAndReleases : Prop :=
  ∀ (p : PumpId) (s : State),
    ((s.inputs.thermal.get p).level = false → fitted s.cfg p = true → s.head.supply ≠ .none →
      (pumpOf s p).state ≠ .fault → (pumpOf s p).state ≠ .inhibited →
      s.mode ≠ .start ∨ contactorClosed s p = false →
      ∃ t, exec (.thermalInputChange p true) s = .next t ∧ pumpOf t p = faultedPump .thermal ∧
        t.inputs = { s.inputs with thermal := s.inputs.thermal.upd p fun _ => .settled true } ∧
        pumpFrame { s with inputs := t.inputs } t) ∧
    (∀ b, (s.inputs.thermal.get p).level = !b → s.mode = .start → contactorClosed s p = true →
      exec (.thermalInputChange p b) s = .next { s with
        inputs := { s.inputs with thermal := s.inputs.thermal.upd p fun _ => .settled b } }) ∧
    (∀ b, (s.inputs.thermal.get p).level = !b → (pumpOf s p).state = .fault → (pumpOf s p).cause = some .thermal →
      ∃ t, exec (.thermalInputChange p b) s = .next t ∧
        pumpOf t p = { pumpOf s p with thermal := if b = true ∨ s.mode = .start then .cleared else .fromZero } ∧
        t.inputs = { s.inputs with thermal := s.inputs.thermal.upd p fun _ => .settled b } ∧
        pumpFrame { s with inputs := t.inputs } t) ∧
    (s.mode ≠ .start → (s.inputs.thermal.get p).level = false → (pumpOf s p).state = .fault →
      (pumpOf s p).cause = some .thermal → (pumpOf s p).thermal.phase = .running →
      ∃ t, exec (.thermalReleaseExpiry p) s = .next t ∧
        ((pumpOf t p).state = .off ∨ (pumpOf t p).state = .pending ∨ (pumpOf t p).state = .claiming) ∧
        contactorClosed t p = false ∧ (pumpOf t p).cause = none ∧ (pumpOf t p).thermal = .cleared ∧
        (s.mode = .fallback → (pumpOf t p).state = .off) ∧
        pumpFrame s t)

/-- The run limit of a pump that runs for DEMAND or HANDOVER below FLOOD sets relief due, and a called pump with a
wanted count of 1 asks its OFF partner for relief; the rest limit takes a RESTING pump out of its rest (R128, R129;
log 2 for the counts). -/
def Obligations.RunLimitAsksReliefAndRestEnds : Prop :=
  ∀ (p : PumpId) (s : State), s.mode = .run →
    ((pumpOf s p).state = .running → (pumpOf s p).reason = some .demand ∨ (pumpOf s p).reason = some .handover →
      s.stage.stage ≠ .flood → runLimitMs s.cfg p ≠ 0 → called s p = true → wantedCount s = 1 →
      fitted s.cfg p.other = true → (pumpOf s p.other).state = .off →
      (entryOf s (pumpRequester p.other)).served = false → heldOnlyServed s →
      ∃ t, exec (.runLimitExpiry p) s = .next t ∧
        pumpOf t p = { pumpOf s p with
          relief := true,
          run := { (pumpOf s p).run with count := max (pumpOf s p).run.count (runLimitMs s.cfg p) } } ∧
        ((pumpOf t p.other).state = .pending ∨ (pumpOf t p.other).state = .claiming) ∧
        (pumpOf t p.other).reason = some .handover ∧
        (entryOf t (pumpRequester p.other)).request = some {
          reason := .handover, level := s.cfg.lvPump.get p, trigger := .level } ∧
        pumpFrame s t) ∧
    ((pumpOf s p).state = .resting → (s.inputs.thermal.get p).level = false →
      ∃ t, exec (.restLimitExpiry p) s = .next t ∧
        ((pumpOf t p).state = .off ∨ (pumpOf t p).state = .pending ∨ (pumpOf t p).state = .claiming) ∧
        (pumpOf t p).run = .cleared ∧ contactorClosed t p = false ∧
        pumpFrame s t)

/-- An exercise timer at Tex makes the pump due, and with no demand an OFF pump in DRY posts EXERCISE; at the end of
the exercise time the pump is OFF and its exercise timer counts from 0 (R92, R130; log 2 for the count at the limit,
log 22). -/
def Obligations.ExerciseIsPostedAndEnds : Prop :=
  ∀ (p : PumpId) (s : State), s.mode = .run → wantedCount s = 0 → fitted s.cfg p = true →
    ((pumpOf s p).state = .off → (pumpOf s p).exercise.phase = .running →
      ∃ t, exec (.exerciseDue p) s = .next t ∧
        (heldOnlyServed s →
          (pumpOf t p).exercise = { phase := .atLimit, count := (s.cfg.pump.get p).tex * 3600000 }) ∧
        (s.stage.stage ≠ .dry → heldOnlyServed s → (pumpOf t p).state = .off) ∧
        (s.stage.stage = .dry → (entryOf s (pumpRequester p)).armed = true →
          (entryOf s (pumpRequester p)).served = false → heldOnlyServed s →
          ((pumpOf t p).state = .pending ∨ (pumpOf t p).state = .claiming) ∧
          (pumpOf t p).reason = some .exercise ∧ (entryOf t (pumpRequester p)).armed = false ∧
          (entryOf t (pumpRequester p)).request = some { reason := .exercise, level := 6, trigger := .edge }) ∧
        pumpFrame s t) ∧
    ((pumpOf s p).state = .running → (pumpOf s p).reason = some .exercise →
      (pumpOf s p).exercise.phase = .running → (s.inputs.thermal.get p).level = false →
      ∃ t, exec (.exerciseTimeExpiry p) s = .next t ∧
        (pumpOf t p).state = .off ∧ (pumpOf t p).reason = none ∧ (pumpOf t p).run = .cleared ∧
        (pumpOf t p).exercise = (if (s.cfg.pump.get p).tex = 0 then .cleared else .fromZero) ∧
        pumpFrame s t)

/-- The float: its assertion starts the float timer, its release clears it and, with no demand, stops a pump that
runs for it; at the timer's expiry the first startable pump, lead first, surges with reason FLOAT while the supply
lasts, with its own claim cancelled and no request of its own pending or held (a called pump posts none, log 21): a
pump in CLAIMING is told "abandoned" and passes through OFF, not judged there (log 44), and a DONE ends a claim in
its window (R42, R106, R115, R118); at the end of that surge the pump is RUNNING with its run-sense present (with
the float released before, for DEMAND where it is called and OFF where nothing is wanted), and in FAULT NO_RUN
without it (R7, R123, R125, R131, R132). -/
def Obligations.FloatStartsAndStopsPumps : Prop :=
  ∀ (p : PumpId) (s : State), s.mode ≠ .start →
    (s.inputs.float.level = false → exec .floatAsserted s = .next { s with
      inputs := { s.inputs with float := .settled true }, pumps := { s.pumps with floatTimer := .fromZero } }) ∧
    (s.inputs.float.level = true → ∃ t, exec .floatReleased s = .next t ∧
      t.inputs = { s.inputs with float := .settled false } ∧ t.pumps.floatTimer = .cleared ∧
      pumpFrame { s with inputs := t.inputs } t ∧
      (wantedCount s = 0 → (pumpOf s p).state = .running → (pumpOf s p).reason = some .float →
        (s.inputs.thermal.get p).level = false → (pumpOf t p).state = .off ∧ (pumpOf t p).reason = none)) ∧
    (s.pumps.floatTimer.phase = .running →
      (s.head.supply = .none →
        exec .floatTimerExpiry s = .next { s with pumps := { s.pumps with floatTimer := .fromZero } }) ∧
      (s.head.supply ≠ .none → floatStartable s p = true →
        (p ≠ s.pumps.lead → floatStartable s s.pumps.lead = false) →
        ∃ t, exec .floatTimerExpiry s = .next t ∧
          pumpOf t p = {
            state := .surging, reason := some .float, cause := none, runPhase := .run, run := .cleared,
            relief := false, runSense := .cleared, thermal := .cleared, exercise := .cleared,
            floatSurge := .fromZero } ∧
          (s.mode = .run → (pumpOf s p).state = .claiming ∨ (pumpOf s p).state = .off →
            t.link.slots.status = some 0) ∧
          (s.mode = .run → s.arb.claim = .claimWait → servedOf s = some (pumpRequester p) →
            t.arb.claim = .idle ∧ t.link.slots.done = some 0 ∧ t.link.slots.claim = none) ∧
          (ServedInv s → heldOnlyServed s →
            (entryOf t (pumpRequester p)).held = none ∧ (entryOf t (pumpRequester p)).pending = false) ∧
          contactorClosed t p = true ∧ t.pumps.floatTimer = .fromZero ∧
          (∀ i, t.probes.get i = { s.probes.get i with
            blank := (s.probes.get i).blank || (s.probes.get i).phase == .charge }) ∧
          pumpFrame { s with probes := { s.probes with a := t.probes.a, b := t.probes.b } } t)) ∧
    ((pumpOf s p).state = .surging → (pumpOf s p).floatSurge.phase = .running →
      ∃ t, exec (.floatSurgeExpiry p) s = .next t ∧
        ((s.inputs.runSense.get p).level = false → pumpOf t p = faultedPump .noRun) ∧
        ((s.inputs.runSense.get p).level = true → (pumpOf s p).reason = some .float → (pumpOf s p).relief = false →
          s.inputs.float.level = true →
          (pumpOf t p).state = .running ∧ (pumpOf t p).reason = some .float ∧ (pumpOf t p).run = .fromZero ∧
          (pumpOf t p).floatSurge = .cleared ∧ t.pumps.later = some p) ∧
        ((s.inputs.runSense.get p).level = true → (pumpOf s p).reason = some .float → (pumpOf s p).relief = false →
          s.inputs.float.level = false → (s.inputs.thermal.get p).level = false →
          (called s p = true → (pumpOf t p).state = .running ∧ (pumpOf t p).reason = some .demand ∧
            (pumpOf t p).run = .fromZero ∧ contactorClosed t p = true) ∧
          (wantedCount s = 0 → (pumpOf t p).state = .off ∧ contactorClosed t p = false)) ∧
        pumpFrame s t)

/-! ### The lamps -/

/-- The PWM period boundary applies the computed duties; the active count of a channel ends its active or inactive
part; a flash phase ends in the other phase; a change of daylight computes the duties of the present targets and
judges shed-capable (R85, R139-R142, R144; log 25 for the period counter). -/
def Obligations.LampChannelsFollowClocks : Prop :=
  ∀ s : State,
    (s.lamps.pwmRunning = true → ∃ t, exec .pwmPeriodBoundary s = .next t ∧
      (∀ ch, t.lamps.applied.get ch =
        if (s.cfg.channel.get ch).role = 0 then 0 else s.lamps.computed.get ch) ∧
      t = { s with lamps := { s.lamps with period := 0, applied := t.lamps.applied } }) ∧
    (∀ ch, s.lamps.pwmRunning = true → (s.cfg.channel.get ch).role ≠ 0 → 0 < s.lamps.applied.get ch →
      s.lamps.applied.get ch < 4095 →
      let n := if (s.cfg.channel.get ch).startsInactive then 4096 - s.lamps.applied.get ch
        else s.lamps.applied.get ch
      exec (.activeCountReached ch) s = .next { s with
        lamps := { s.lamps with period := max s.lamps.period n } }) ∧
    (s.mode ≠ .start → s.lamps.flash ≠ .stopped → ∃ t, exec .flashPhaseExpiry s = .next t ∧
      t.lamps.flash = (if s.lamps.flash = .on then .off else .on) ∧ t.lamps.flashCount = 0 ∧
      (∀ ch, (s.cfg.channel.get ch).role = 2 →
        s.mode = .fallback ∨ (s.lamps.bank ≠ .dark ∧ s.lamps.test.phase ≠ .running) →
        t.lamps.computed.get ch = if s.lamps.flash = .on then 0 else activeTarget s ch) ∧
      t = { s with lamps := { s.lamps with
        flash := t.lamps.flash, flashCount := 0, computed := t.lamps.computed } }) ∧
    (∀ b, s.inputs.daylight.level = !b → ∃ t, exec (.daylightChange b) s = .next t ∧
      t.inputs = { s.inputs with daylight := .settled b } ∧
      (s.mode = .start → t = { s with inputs := t.inputs }) ∧
      (s.mode = .run → t.head.shedCapable = shedCondition t ∧
        ∀ ch, (s.cfg.channel.get ch).role = 1 → s.lamps.bank ≠ .dark → s.lamps.test.phase ≠ .running →
          t.lamps.computed.get ch =
            (if s.cfg.portal && b then (s.cfg.channel.get ch).boostTarget
             else (s.cfg.channel.get ch).normalTarget) * s.head.scale / 256) ∧
      t = { s with
        inputs := t.inputs, lamps := { s.lamps with computed := t.lamps.computed },
        head := { s.head with shedCapable := t.head.shedCapable } })

/-- LAMP_TEST is refused while warning active or relight-needed is set, and otherwise sets every used channel to
4095 and starts the timer; at the timer's expiry the duties are computed afresh (R142, R144, R147, R170). -/
def Obligations.LampTestSetsAndRestoresDuties : Prop :=
  ∀ (arg : Half) (s : State), s.mode = .run →
    (s.lamps.warning = true ∨ s.lamps.bank ≠ .lit →
      exec (.lampTest arg) s = .next (answeredOnly s 11 arg .refusedState [])) ∧
    (s.lamps.warning = false → s.lamps.bank = .lit → ∃ t, exec (.lampTest arg) s = .next t ∧
      (∀ ch, t.lamps.computed.get ch =
        if (s.cfg.channel.get ch).role = 1 ∨ (s.cfg.channel.get ch).role = 2 then 4095 else 0) ∧
      t = { answeredOnly s 11 arg .accepted [] with
        lamps := { s.lamps with test := .fromZero, computed := t.lamps.computed } }) ∧
    (s.lamps.test.phase = .running → ∃ t, exec .lampTestExpiry s = .next t ∧
      (∀ ch, s.lamps.bank = .lit → t.lamps.computed.get ch =
        if (s.cfg.channel.get ch).role = 1 then activeTarget s ch * s.head.scale / 256
        else if (s.cfg.channel.get ch).role = 2 ∧ s.lamps.flash = .on then activeTarget s ch else 0) ∧
      t = { s with lamps := { s.lamps with test := .cleared, computed := t.lamps.computed } })

/-! ### The gate -/

/-- A loop of a PORTAL station in RUN: its stuck timer and fault follow the change, and where the loops become clear
or occupied the dwell timer starts or is cleared and, under AUTO, a waiting gate goes back to HOLDING and a lowering
gate pauses with its motor off (R153, R158, R159). A stuck timer's expiry sets the fault, and a loop then ignored
lets the dwell timer start. -/
def Obligations.LoopsHoldTheGate : Prop :=
  ∀ (l : LoopId) (s : State), s.mode = .run → s.cfg.portal = true →
    (∀ b, (s.inputs.loop.get l).level = !b → ∃ t, exec (.loopChange l b) s = .next t ∧
      t.inputs = { s.inputs with loop := s.inputs.loop.upd l fun _ => .settled b } ∧
      t.gate.stuck.get l = (if s.cfg.counted.get l then
        (if b then { (s.gate.stuck.get l) with timer := .fromZero } else { timer := .cleared, fault := false })
        else s.gate.stuck.get l) ∧
      (loopsClear t = loopsClear s → t.gate = { s.gate with stuck := t.gate.stuck }) ∧
      (loopsClear s = false → loopsClear t = true →
        t.gate = { s.gate with stuck := t.gate.stuck, dwell := .fromZero }) ∧
      (loopsClear s = true → loopsClear t = false → t.gate.dwell = .cleared ∧
        (s.inputs.key.level = false →
          (s.gate.state = .lowerPending → t.gate.state = .holding ∧ t.gate.motor = s.gate.motor) ∧
          (s.gate.state = .lowering → t.gate.state = .lowerPaused ∧ t.gate.motor = .off ∧
            t.gate.travel = { phase := .held, count := s.gate.travel.count } ∧ t.gate.blocked = .fromZero) ∧
          (s.gate.state ≠ .lowerPending → s.gate.state ≠ .lowering →
            t.gate = { s.gate with stuck := t.gate.stuck, dwell := .cleared })) ∧
        (s.inputs.key.level = true → s.gate.motor = .down → t.gate.motor = .off)) ∧
      gateFrame { s with inputs := t.inputs } t) ∧
    ((s.gate.stuck.get l).timer.phase = .running → (s.inputs.loop.get l).level = true →
      ∃ t, exec (.stuckTimerExpiry l) s = .next t ∧
        (t.gate.stuck.get l).fault = true ∧ gateFrame s t ∧
        (loopsClear s = false → loopsClear t = true → t.gate.dwell = .fromZero) ∧
        (loopsClear t = loopsClear s → t = { s with gate := { s.gate with stuck := t.gate.stuck } }))

/-- The gate's timers at a PORTAL station in RUN: the warning time ends in LOWER_PENDING with the dwell time served
and in HOLDING otherwise; the dwell time takes a waiting gate to LOWER_PENDING under AUTO; the blocked time sets
GATE_BLOCKED alone; the reopen time takes a CLOSED gate to RAISE_PENDING; the local surge ends with the motor
running on; the travel time puts the gate in FAULT TRAVEL (R153, R155, R156, R158, R160-R162, R165; the counts set
at the limits are log 2). -/
def Obligations.GateTimersMoveGate : Prop :=
  ∀ s : State, s.mode = .run → s.cfg.portal = true →
    (s.gate.state = .warning → s.gate.warning.phase = .running → ∃ t, exec .warningTimerExpiry s = .next t ∧
      t.gate.motor = s.gate.motor ∧ t.gate.dwell = s.gate.dwell ∧ gateFrame s t ∧
      (s.gate.dwell.phase = .atLimit → t.gate.state = .lowerPending ∧
        ((entryOf s .gate).armed = true → (entryOf s .gate).served = false → heldOnlyServed s →
          (entryOf t .gate).request = some { reason := .lower, level := s.cfg.lvLower, trigger := .edge })) ∧
      (s.gate.dwell.phase ≠ .atLimit → t.gate.state = .holding ∧
        (s.gate.blocked = .cleared → t.gate.blocked = .fromZero))) ∧
    (s.gate.dwell.phase = .running → ∃ t, exec .dwellTimerLimit s = .next t ∧
      t.gate.dwell = { phase := .atLimit, count := s.cfg.tclear * 1000 } ∧ t.gate.motor = s.gate.motor ∧
      gateFrame s t ∧
      t.gate.state = (if s.inputs.key.level = false ∧ (s.gate.state = .holding ∨ s.gate.state = .lowerPaused)
        then .lowerPending else s.gate.state)) ∧
    (s.gate.blocked.phase = .running → exec .blockedTimerExpiry s = .next { s with
      gate := { s.gate with
        blocked := { phase := .atLimit, count := s.cfg.tblocked * 10000 }, blockedFlag := true } }) ∧
    (s.gate.reopen.phase = .running → ∃ t, exec .reopenTimerLimit s = .next t ∧
      t.gate.motor = s.gate.motor ∧ t.gate.holdClosed = s.gate.holdClosed ∧ gateFrame s t ∧
      t.gate.state = (if s.gate.state = .closed ∧ s.gate.holdClosed = false ∧ s.inputs.key.level = false
        then .raisePending else s.gate.state) ∧
      (s.gate.state = .closed → s.gate.holdClosed = true →
        t.gate.reopen = { phase := .atLimit, count := s.cfg.tro * 15000 })) ∧
    (s.gate.localSurge.phase = .running →
      exec .localSurgeExpiry s = .next { s with gate := { s.gate with localSurge := .cleared } }) ∧
    (s.gate.travel.phase = .running → ∃ t, exec .travelTimerExpiry s = .next t ∧
      t.gate = { State.reset.gate with
        state := .fault, cause := some .travel, holdClosed := s.gate.holdClosed, dwell := s.gate.dwell,
        stuck := s.gate.stuck } ∧
      ((entryOf s .gate).served = false → (entryOf t .gate).pending = false) ∧
      gateFrame s t)

/-- A limit switch of a PORTAL station in RUN. Under AUTO DOWN takes a gate on the closing path to CLOSED, UP a
rising gate to OPEN, or to WARNING with a closing cause, with the motor off, and a release moves nothing (R154,
R159-R161). Under LOCAL a motor that drives into its limit goes off with its travel and local surge timers cleared,
and the state tracks the arm (R164, R165). Under either, both together are FAULT LIMITS, and in FAULT a change moves
nothing (R162). -/
def Obligations.LimitSwitchesEndTravel : Prop :=
  ∀ s : State, s.mode = .run → s.cfg.portal = true →
    (s.inputs.limDown.level = false → s.gate.state ≠ .fault → ∃ t, exec (.downLimitChange true) s = .next t ∧
      t.inputs = { s.inputs with limDown := .settled true } ∧ gateFrame { s with inputs := t.inputs } t ∧
      (s.inputs.limUp.level = true → t.gate.state = .fault ∧ t.gate.cause = some .limits ∧ t.gate.motor = .off) ∧
      (s.inputs.key.level = false → s.inputs.limUp.level = false →
        s.gate.state = .lowering ∨ s.gate.state = .warning ∨ s.gate.state = .holding ∨
          s.gate.state = .lowerPending ∨ s.gate.state = .lowerPaused →
        t.gate.state = .closed ∧ t.gate.motor = .off ∧ t.gate.closeOrder = false ∧ t.gate.travel = .cleared ∧
        t.gate.reopen = if s.stage.stage = .dry ∨ s.stage.stage = .wet then .fromZero else .cleared) ∧
      (s.inputs.key.level = false → s.inputs.limUp.level = false →
        s.gate.state = .atOpen ∨ s.gate.state = .closed ∨ s.gate.state = .raisePending ∨ s.gate.state = .raising →
        t = { s with inputs := t.inputs })) ∧
    (s.inputs.limUp.level = false → s.gate.state ≠ .fault → ∃ t, exec (.upLimitChange true) s = .next t ∧
      t.inputs = { s.inputs with limUp := .settled true } ∧ gateFrame { s with inputs := t.inputs } t ∧
      (s.inputs.limDown.level = true → t.gate.state = .fault ∧ t.gate.cause = some .limits ∧
        t.gate.motor = .off) ∧
      (s.inputs.key.level = false → s.inputs.limDown.level = false →
        s.gate.state = .raisePending ∨ s.gate.state = .raising →
        t.gate.state = (if (s.stage.stage = .flood ∧ s.cfg.autoClose = true) ∨ s.gate.closeOrder = true ∨
          s.gate.holdClosed = true then .warning else .atOpen) ∧
        (s.gate.state = .raising → t.gate.motor = .off ∧ t.gate.travel = .cleared)) ∧
      (s.inputs.key.level = false → s.inputs.limDown.level = false → s.gate.state ≠ .raisePending →
        s.gate.state ≠ .raising → t = { s with inputs := t.inputs })) ∧
    (∀ b, s.inputs.limDown.level = !b → (b = false ∧ s.inputs.key.level = false) ∨ s.gate.state = .fault →
      exec (.downLimitChange b) s = .next { s with inputs := { s.inputs with limDown := .settled b } }) ∧
    (∀ b, s.inputs.limUp.level = !b → (b = false ∧ s.inputs.key.level = false) ∨ s.gate.state = .fault →
      exec (.upLimitChange b) s = .next { s with inputs := { s.inputs with limUp := .settled b } }) ∧
    (∀ c inputs, (∃ b, c = .downLimitChange b ∧ s.inputs.limDown.level = !b ∧
          inputs = { s.inputs with limDown := .settled b }) ∨
        (∃ b, c = .upLimitChange b ∧ s.inputs.limUp.level = !b ∧
          inputs = { s.inputs with limUp := .settled b }) →
      s.inputs.key.level = true → s.gate.state ≠ .fault →
      inputs.limUp.level = false ∨ inputs.limDown.level = false → ∃ t, exec c s = .next t ∧ t.inputs = inputs ∧
        (let stops := (s.gate.motor = .down ∧ inputs.limDown.level = true) ∨
           (s.gate.motor = .up ∧ inputs.limUp.level = true)
         t.gate.motor = (if stops then .off else s.gate.motor) ∧
         t.gate.travel = (if stops then .cleared else s.gate.travel) ∧
         t.gate.localSurge = (if stops then .cleared else s.gate.localSurge)) ∧
        t.gate.state = (match t.gate.motor with
          | .down => .lowering
          | .up => .raising
          | .off => if inputs.limUp.level then .atOpen else if inputs.limDown.level then .closed else .lowerPaused) ∧
        t.gate.holdClosed = s.gate.holdClosed ∧ t.gate.dwell = s.gate.dwell ∧ t.gate.stuck = s.gate.stuck ∧
        gateFrame { s with inputs := inputs } t)

/-- The key and the pushbuttons at a PORTAL station in RUN: a turn to LOCAL stops the motor, clears the gate's
timers and orders and tracks the arm; a turn to AUTO derives the state; under LOCAL, outside FAULT and with a
supply, LOWER and RAISE start the motor where the loops and limits allow, and STOP and the opposite button stop it;
a press in the direction already driven, or against a limit or occupied loops, and any press under AUTO move nothing
(R154, R163-R166). The button's own filter is log 24, GATE_BLOCKED clear under LOCAL log 15, stopped by loss at the
turn log 14, the derivation of a gate in FAULT log 16, both limits asserted under LOCAL log 43. -/
def Obligations.KeyAndButtonsMoveGate : Prop :=
  ∀ s : State, s.mode = .run → s.cfg.portal = true →
    (s.inputs.key.level = false → ∃ t, exec (.keyChange .localKey) s = .next t ∧
      t.inputs = { s.inputs with key := .settled true } ∧ gateFrame { s with inputs := t.inputs } t ∧
      t.gate = { State.reset.gate with
        state := t.gate.state, cause := t.gate.cause, holdClosed := s.gate.holdClosed, dwell := s.gate.dwell,
        stuck := s.gate.stuck, stoppedByLoss := s.gate.stoppedByLoss && s.gate.state == .fault } ∧
      t.gate.state = (if s.gate.state = .fault then .fault
        else if s.inputs.limUp.level then .atOpen
        else if s.inputs.limDown.level then .closed
        else .lowerPaused)) ∧
    (s.inputs.key.level = true → ∃ t, exec (.keyChange .autoKey) s = .next t ∧
      t.inputs = { s.inputs with key := .settled false } ∧ t.gate.motor = .off ∧
      gateFrame { s with inputs := t.inputs } t ∧
      t.gate.holdClosed = s.gate.holdClosed ∧
      t.gate.state = (if s.inputs.limUp.level && s.inputs.limDown.level then .fault
        else if s.inputs.limUp.level then
          (if (s.stage.stage == .flood && s.cfg.autoClose) || s.gate.closeOrder || s.gate.holdClosed then .warning
           else .atOpen)
        else if s.inputs.limDown.level then .closed
        else if s.stage.stage == .flood || s.gate.holdClosed then .warning
        else .raisePending)) ∧
    (s.inputs.key.level = true → s.gate.state ≠ .fault → s.head.supply ≠ .none →
      (s.gate.motor = .off → loopsClear s = true → s.inputs.limDown.level = false →
        ∃ t, exec .pbLower s = .next t ∧ t.gate.motor = .down ∧ t.gate.state = .lowering ∧
          t.gate.travel = .fromZero ∧ t.gate.localSurge = .fromZero ∧ gateFrame { s with inputs := t.inputs } t) ∧
      (s.gate.motor = .off → loopsClear s = false ∨ s.inputs.limDown.level = true →
        exec .pbLower s = .next { s with inputs := { s.inputs with
          pbLower := { s.inputs.pbLower with level := true, opposite := 0 } } }) ∧
      (s.gate.motor = .off → s.inputs.limUp.level = false →
        ∃ t, exec .pbRaise s = .next t ∧ t.gate.motor = .up ∧ t.gate.state = .raising ∧
          t.gate.travel = .fromZero ∧ t.gate.localSurge = .fromZero ∧ gateFrame { s with inputs := t.inputs } t) ∧
      ((s.gate.motor = .off ∧ s.inputs.limUp.level = true) ∨ s.gate.motor = .up →
        exec .pbRaise s = .next { s with inputs := { s.inputs with
          pbRaise := { s.inputs.pbRaise with level := true, opposite := 0 } } }) ∧
      (s.gate.motor = .down → exec .pbLower s = .next { s with inputs := { s.inputs with
          pbLower := { s.inputs.pbLower with level := true, opposite := 0 } } }) ∧
      (∀ c, c = .pbStop ∨ (c = .pbLower ∧ s.gate.motor = .up) ∨ (c = .pbRaise ∧ s.gate.motor = .down) →
        ∃ t, exec c s = .next t ∧ t.gate.motor = .off ∧ t.gate.travel = .cleared ∧
          t.gate.localSurge = .cleared ∧ gateFrame { s with inputs := t.inputs } t ∧
          t.gate.state = (if s.inputs.limUp.level then .atOpen
            else if s.inputs.limDown.level then .closed else .lowerPaused))) ∧
    (s.inputs.key.level = false ∨ s.gate.state = .fault ∨ s.head.supply = .none →
      exec .pbLower s = .next { s with inputs := { s.inputs with
        pbLower := { s.inputs.pbLower with level := true, opposite := 0 } } } ∧
      exec .pbRaise s = .next { s with inputs := { s.inputs with
        pbRaise := { s.inputs.pbRaise with level := true, opposite := 0 } } } ∧
      exec .pbStop s = .next { s with inputs := { s.inputs with
        pbStop := { s.inputs.pbStop with level := true, opposite := 0 } } })

/-! ### The orders -/

/-- The gate orders and CLEAR_FAULT of the gate: refused by role at a BAY station, the four orders by the LOCAL key,
and otherwise taken or refused by the gate state as Figure 9-3 gives, with the gate state's code as data (R162,
R163, R167, R171). -/
def Obligations.GateOrdersFollowFigure : Prop :=
  ∀ (arg : Half) (s : State), s.mode = .run →
    (∀ c code, (c = .gateClose arg ∧ code = 4) ∨ (c = .gateOpen arg ∧ code = 5) ∨ (c = .gateHold arg ∧ code = 6) ∨
        (c = .gateRelease arg ∧ code = 7) →
      (s.cfg.portal = false → exec c s = .next (answeredOnly s code arg .refusedRole [])) ∧
      (s.cfg.portal = true → s.inputs.key.level = true →
        exec c s = .next (answeredOnly s code arg .refusedKey [byteOf (gateStateCode s.gate.state)]))) ∧
    (s.cfg.portal = true → s.inputs.key.level = false →
      (s.gate.state = .fault →
        exec (.gateClose arg) s = .next (answeredOnly s 4 arg .refusedState [9])) ∧
      (s.gate.state ≠ .fault → ∃ t, exec (.gateClose arg) s = .next t ∧
        answeredWith t 4 arg .accepted [byteOf (gateStateCode t.gate.state)] ∧ gateFrame (orderHeardFrom s t) t ∧
        t.gate.closeOrder = (if s.gate.state = .closed then s.gate.closeOrder else true) ∧
        t.gate.state = (if s.gate.state = .atOpen ∨ s.gate.state = .raisePending ∨ s.gate.state = .raising
          then .warning else s.gate.state) ∧
        (s.gate.state = .raising → t.gate.motor = .off)) ∧
      (∃ t, exec (.gateHold arg) s = .next t ∧
        answeredWith t 6 arg .accepted [byteOf (gateStateCode t.gate.state)] ∧ gateFrame (orderHeardFrom s t) t ∧
        t.gate.holdClosed = true ∧
        t.gate.state = (if s.gate.state = .atOpen ∨ s.gate.state = .raisePending ∨ s.gate.state = .raising
          then .warning else s.gate.state) ∧
        (s.gate.state = .raising → t.gate.motor = .off)) ∧
      (s.stage.stage = .flood ∨ s.gate.holdClosed = true ∨ s.gate.state = .lowering ∨ s.gate.state = .fault →
        exec (.gateOpen arg) s =
          .next (answeredOnly s 5 arg .refusedState [byteOf (gateStateCode s.gate.state)])) ∧
      (s.stage.stage ≠ .flood → s.gate.holdClosed = false → s.gate.state ≠ .lowering → s.gate.state ≠ .fault →
        ∃ t, exec (.gateOpen arg) s = .next t ∧
          answeredWith t 5 arg .accepted [byteOf (gateStateCode t.gate.state)] ∧
          gateFrame (orderHeardFrom s t) t ∧ t.gate.closeOrder = false ∧
          t.gate.state = (if s.gate.state = .warning ∨ s.gate.state = .holding ∨ s.gate.state = .lowerPending ∨
              s.gate.state = .lowerPaused then (if s.inputs.limUp.level then .atOpen else .raisePending)
            else if s.gate.state = .closed then .raisePending else s.gate.state)) ∧
      (∃ t, exec (.gateRelease arg) s = .next t ∧
        answeredWith t 7 arg .accepted [byteOf (gateStateCode t.gate.state)] ∧ gateFrame (orderHeardFrom s t) t ∧
        t.gate.holdClosed = false ∧
        t.gate.state = (if s.gate.state = .closed ∧ s.gate.reopen.phase = .atLimit then .raisePending
          else if (s.gate.state = .warning ∨ s.gate.state = .holding ∨ s.gate.state = .lowerPending) ∧
              s.gate.travel.count = 0 ∧ s.stage.stage ≠ .flood ∧ s.gate.closeOrder = false
            then (if s.inputs.limUp.level then .atOpen else .raisePending)
          else s.gate.state))) ∧
    (s.cfg.portal = false → exec .clearFaultGate s = .next (answeredOnly s 10 3 .refusedRole [])) ∧
    (s.cfg.portal = true →
      (s.gate.state ≠ .fault ∨
          (s.gate.cause = some .limits ∧ s.inputs.limUp.level = true ∧ s.inputs.limDown.level = true) →
        exec .clearFaultGate s =
          .next (answeredOnly s 10 3 .refusedState [byteOf (gateStateCode s.gate.state)])) ∧
      (s.gate.state = .fault →
        ¬(s.gate.cause = some .limits ∧ s.inputs.limUp.level = true ∧ s.inputs.limDown.level = true) →
        ∃ t, exec .clearFaultGate s = .next t ∧
          answeredWith t 10 3 .accepted [byteOf (gateStateCode t.gate.state)] ∧
          gateFrame (orderHeardFrom s t) t ∧
          (s.inputs.limUp.level = true → s.inputs.limDown.level = true →
            t.gate.state = .fault ∧ t.gate.cause = some .limits) ∧
          (s.inputs.key.level = true → s.gate.motor = .off →
            s.inputs.limUp.level = false ∨ s.inputs.limDown.level = false →
            t.gate.state = (if s.inputs.limUp.level then .atOpen else if s.inputs.limDown.level then .closed
              else .lowerPaused) ∧ t.gate.cause = none ∧ t.gate.motor = .off) ∧
          (s.inputs.key.level = false → s.inputs.limUp.level = true → s.inputs.limDown.level = false →
            t.gate.state = (if (s.stage.stage = .flood ∧ s.cfg.autoClose = true) ∨ s.gate.closeOrder = true ∨
              s.gate.holdClosed = true then .warning else .atOpen) ∧ t.gate.cause = none) ∧
          (s.inputs.key.level = false → s.inputs.limUp.level = false → s.inputs.limDown.level = true →
            t.gate.state = .closed ∧ t.gate.cause = none) ∧
          (s.inputs.key.level = false → s.inputs.limUp.level = false → s.inputs.limDown.level = false →
            t.gate.state = (if s.stage.stage = .flood ∨ s.gate.holdClosed = true then .warning
              else .raisePending) ∧ t.gate.cause = none)))

/-- PUMP_INHIBIT, PUMP_RELEASE and CLEAR_FAULT: an argument that names no fitted pump is BAD_ARGUMENT; an accepted
order sets or clears the service mask (a PUMP_INHIBIT of an INHIBITED pump changes nothing) and puts the pump in
INHIBITED or out of INHIBITED or FAULT; a pump in no state for the order is REFUSED_STATE with no effect, and so is
CLEAR_FAULT with the thermal input asserted (R135, R136, R171, Figure 7-3; log 34). The data is the state of the
pump once the order has been acted on, with the attempts it calls for (R171, log 8). -/
def Obligations.PumpOrdersInhibitAndRestore : Prop :=
  ∀ (arg : Half) (s : State), s.mode = .run →
    (∀ c code, (c = .pumpInhibit arg ∧ code = 8) ∨ (c = .pumpRelease arg ∧ code = 9) ∨
        (c = .clearFault arg ∧ code = 10 ∧ arg ≠ 3) →
      (arg ≠ 1 ∨ fitted s.cfg .p1 = false) → (arg ≠ 2 ∨ fitted s.cfg .p2 = false) →
      exec c s = .next (answeredOnly s code arg .badArgument [])) ∧
    (∀ p, fitted s.cfg p = true → (p = .p1 → arg = 1) → (p = .p2 → arg = 2) →
      ((pumpOf s p).state ≠ .inhibited → ∃ t, exec (.pumpInhibit arg) s = .next t ∧
        answeredWith t 8 arg .accepted [7] ∧ pumpFrame (orderHeardFrom s t) t ∧
        pumpOf t p = { faultedPump .noRun with state := .inhibited, cause := none } ∧
        contactorClosed t p = false ∧ (entryOf t (pumpRequester p)).mask = true) ∧
      ((pumpOf s p).state = .inhibited →
        exec (.pumpInhibit arg) s = .next (answeredOnly s 8 arg .accepted [7])) ∧
      ((pumpOf s p).state ≠ .inhibited → exec (.pumpRelease arg) s =
        .next (answeredOnly s 9 arg .refusedState [byteOf (pumpStateCode (pumpOf s p).state)])) ∧
      ((pumpOf s p).state = .inhibited → (s.inputs.thermal.get p).level = false ∨ s.head.supply = .none →
        ∃ t, exec (.pumpRelease arg) s = .next t ∧
          answeredWith t 9 arg .accepted [byteOf (pumpStateCode (pumpOf t p).state)] ∧
          pumpFrame (orderHeardFrom s t) t ∧
          ((pumpOf t p).state = .off ∨ (pumpOf t p).state = .pending ∨ (pumpOf t p).state = .claiming) ∧
          (entryOf t (pumpRequester p)).mask = false) ∧
      ((pumpOf s p).state = .inhibited → (s.inputs.thermal.get p).level = true → s.head.supply ≠ .none →
        ∃ t, exec (.pumpRelease arg) s = .next t ∧ answeredWith t 9 arg .accepted [6] ∧
          pumpOf t p = faultedPump .thermal ∧ pumpFrame (orderHeardFrom s t) t) ∧
      ((pumpOf s p).state ≠ .fault ∨ (s.inputs.thermal.get p).level = true →
        exec (.clearFault arg) s =
          .next (answeredOnly s 10 arg .refusedState [byteOf (pumpStateCode (pumpOf s p).state)])) ∧
      ((pumpOf s p).state = .fault → (s.inputs.thermal.get p).level = false →
        ∃ t, exec (.clearFault arg) s = .next t ∧
          answeredWith t 10 arg .accepted [byteOf (pumpStateCode (pumpOf t p).state)] ∧
          pumpFrame (orderHeardFrom s t) t ∧
          ((pumpOf t p).state = .off ∨ (pumpOf t p).state = .pending ∨ (pumpOf t p).state = .claiming) ∧
          (pumpOf t p).cause = none ∧ (pumpOf t p).thermal = .cleared))

/-- QUERY, DESCRIBE, COUNTERS and an unknown order change nothing but the report, and COUNTERS with argument 1 the
ten counts: QUERY answers its five pages and BAD_ARGUMENT above them, with the stage, its flags, the headroom, the
claim and the lead pump at their places in page 0, the start table in page 1, the claim records in pages 2 and 3 and
the peer entries in page 4; DESCRIBE answers the record of R173; COUNTERS the counts as they stand; flag bits that
R172 and R173 do not assign are 0, the model's choice (log 45) (R170, R172, R173). -/
def Obligations.ReadingOrdersReport : Prop :=
  ∀ (arg : Half) (s : State), s.mode = .run →
    (arg.toNat = 0 → ∃ d, exec (.query arg) s = .next (answeredOnly s 1 arg .accepted d) ∧ d.length = 15 ∧
      d[0]? = some (byteOf (stageCode s.stage.stage)) ∧
      (∃ b, d[1]? = some b ∧ b.getLsbD 7 = s.stage.blind ∧ b.getLsbD 6 = s.peers.isolated ∧
        b.getLsbD 5 = s.peers.duplicate ∧ b.getLsbD 4 = s.head.shedCapable ∧
        b.getLsbD 3 = (s.arb.listenIn == .elapsed) ∧ b.toNat % 8 = 0) ∧
      d[8]? = some (match servedOf s with
        | some .gate => (0 : Byte) | some .p1 => 1 | some .p2 => 2 | some .lamps => 3 | none => 15) ∧
      d[10]? = some (if s.cfg.pumpCount = 0 then (0 : Byte) else if s.pumps.lead = .p1 then 1 else 2) ∧
      d[2]? = some (match s.head.supply with | .mains => (0 : Byte) | .standby => 1 | .none => 2) ∧
      (d.drop 3).take 4 = bytesInt16 s.head.h ++ bytes16 s.head.scale ∧
      d[7]? = some (match s.arb.claim with
        | .idle => (0 : Byte) | .claimQueued => 1 | .claimWait => 2 | .surge => 3) ∧
      d[9]? = some (byteOf s.arb.claims.length) ∧
      d.drop 11 = bytes16 (effectiveWindow s.cfg) ++ bytes16 (effectiveHolder s.cfg)) ∧
    (0 < arg.toNat → arg.toNat ≤ 4 → ∃ d, exec (.query arg) s = .next (answeredOnly s 1 arg .accepted d) ∧
      (arg.toNat = 1 → d.length = 12 ∧ ∀ r i, [Requester.gate, .p1, .p2, .lamps][i]? = some r →
        (∃ b, d[3 * i]? = some b ∧ b.getLsbD 7 = (entryOf s r).pending ∧ b.getLsbD 6 = (entryOf s r).served ∧
          b.getLsbD 5 = (entryOf s r).armed ∧ b.getLsbD 4 = (entryOf s r).mask ∧
          b.getLsbD 3 = (entryOf s r).budgetHeld ∧ b.getLsbD 2 = masked s r ∧
          (b.getLsbD 1 = true ↔ ∃ q, (entryOf s r).request = some q ∧ q.trigger = .edge) ∧ b.getLsbD 0 = false) ∧
        (∀ q, (entryOf s r).request = some q →
          d[3 * i + 1]? = some (byteOf (reasonCode q.reason)) ∧ d[3 * i + 2]? = some (byteOf q.level)) ∧
        ((entryOf s r).request = none → d[3 * i + 1]? = some 15 ∧ d[3 * i + 2]? = some 255)) ∧
      (let record := fun c : ClaimRecord => [byteOf (c.station * 16 + c.urgency),
         byteOf (c.requester * 16 + c.reason), hiByte c.sd, loByte c.sd, byteOf (c.holder / 200)]
       (arg.toNat = 2 → d.length = 5 * min 4 s.arb.claims.length ∧
         ∀ c i, i < 4 → s.arb.claims[i]? = some c → (d.drop (5 * i)).take 5 = record c) ∧
       (arg.toNat = 3 → d.length = 5 * min 3 (s.arb.claims.length - 4) ∧
         ∀ c i, i < 3 → s.arb.claims[i + 4]? = some c → (d.drop (5 * i)).take 5 = record c)) ∧
      (arg.toNat = 4 → d.length = 2 * s.peers.entries.length ∧ ∀ e i, s.peers.entries[i]? = some e →
        (d.drop (2 * i)).take 2 = match e.age with
          | none => [byteOf (e.station * 16 + 3), 0]
          | some n => [byteOf (e.station * 16 + if n ≤ 3 then 0 else if n ≤ 8 then 1 else 2), byteOf n])) ∧
    (4 < arg.toNat → exec (.query arg) s = .next (answeredOnly s 1 arg .badArgument [])) ∧
    exec (.describe arg) s = .next (answeredOnly s 2 arg .accepted
      [0x01, 0xA2, byteOf s.cfg.station, if s.cfg.portal then 1 else 0, byteOf s.cfg.pumpCount,
       byteOf (s.cfg.channel.ch0.role + s.cfg.channel.ch1.role * 4 + s.cfg.channel.ch2.role * 16 +
         s.cfg.channel.ch3.role * 64),
       if s.cfg.portal then 1 else 0, s.loader.image.getD 2 0, s.loader.image.getD 126 0,
       s.loader.image.getD 127 0, if s.loader.clamped then 1 else 0, s.cfg.roster]) ∧
    (let counts := ([min 65535 (s.link.counters.rxOk + 1), s.link.counters.crcErr, s.link.counters.lengthErr,
       s.link.counters.unknownKind, s.link.counters.foreign, s.link.counters.fragment, s.link.counters.collision,
       s.link.counters.txDropped, s.peers.seqGap, s.probes.blanked].flatMap bytes16)
     (arg = 0 → exec (.counters arg) s = .next (answeredOnly s 3 arg .accepted counts)) ∧
     (arg = 1 → ∃ t, exec (.counters arg) s = .next t ∧ answeredWith t 3 arg .accepted counts ∧
       t = { answeredOnly s 3 arg .accepted counts with
         link := { (answeredOnly s 3 arg .accepted counts).link with counters := .zero },
         peers := { s.peers with seqGap := 0 }, probes := { s.probes with blanked := 0 } }) ∧
     (1 < arg.toNat → exec (.counters arg) s = .next (answeredOnly s 3 arg .badArgument []))) ∧
    (∀ code : Byte, code = 0 ∨ 13 ≤ code.toNat →
      exec (.unknownOrder code arg) s = .next (answeredOnly s code arg .unknownOrder []))

/-! ### The requests and the relief -/

/-- Where the requests and the relief stand, kept by every step, those on an empty queue (log 3) among them: an entry
holds a request only while it is served (Figure 6-2, R95), outside RUN the own claim is IDLE and every entry stands at
its reset value but for its service mask (R92, R116, R117; the entry's counter of posts is the model's, log 8), and
relief due stands only on a pump that runs for DEMAND or HANDOVER (R128). With these and the one served entry it keeps
that a pump and its entry agree: the reason of a pump in PENDING or CLAIMING is that of the request its entry carries,
or holds where it is served on after a cancellation (R95, R106, R122, R123; a cancelled entry is log 18, a served
entry not pending log 7). -/
def Obligations.HeldRequestsAndReliefKeptByStep : Prop :=
  (∀ s t : State, RequestsInv s → step s = .next t → RequestsInv t) ∧
  ∀ s t : State, ServedInv s → RequestsInv s → PumpRequestsInv s → step s = .next t → PumpRequestsInv t
end

