-- ==== Sys2Proof/Laws/State.lean ====
section
/-! SUPPORT. What each update of the state leaves and gives, one lemma per field per update, true by rfl, so that no
proof unfolds a record update. -/

namespace Sys2Proof.Machine

section
variable (s : State) (f : Loader → Loader)
@[simp] theorem State.onLoader_loader : (s.onLoader f).loader = f s.loader := rfl
@[simp] theorem State.onLoader_inputs : (s.onLoader f).inputs = s.inputs := rfl
@[simp] theorem State.onLoader_div : (s.onLoader f).div = s.div := rfl
@[simp] theorem State.onLoader_probes : (s.onLoader f).probes = s.probes := rfl
@[simp] theorem State.onLoader_link : (s.onLoader f).link = s.link := rfl
@[simp] theorem State.onLoader_peers : (s.onLoader f).peers = s.peers := rfl
@[simp] theorem State.onLoader_stage : (s.onLoader f).stage = s.stage := rfl
@[simp] theorem State.onLoader_head : (s.onLoader f).head = s.head := rfl
@[simp] theorem State.onLoader_arb : (s.onLoader f).arb = s.arb := rfl
@[simp] theorem State.onLoader_pumps : (s.onLoader f).pumps = s.pumps := rfl
@[simp] theorem State.onLoader_lamps : (s.onLoader f).lamps = s.lamps := rfl
@[simp] theorem State.onLoader_gate : (s.onLoader f).gate = s.gate := rfl
@[simp] theorem State.onLoader_order : (s.onLoader f).order = s.order := rfl
@[simp] theorem State.onLoader_free : (s.onLoader f).free = s.free := rfl
@[simp] theorem State.onLoader_pending : (s.onLoader f).pending = s.pending := rfl
end

section
variable (s : State) (f : Inputs → Inputs)
@[simp] theorem State.onInputs_loader : (s.onInputs f).loader = s.loader := rfl
@[simp] theorem State.onInputs_inputs : (s.onInputs f).inputs = f s.inputs := rfl
@[simp] theorem State.onInputs_div : (s.onInputs f).div = s.div := rfl
@[simp] theorem State.onInputs_probes : (s.onInputs f).probes = s.probes := rfl
@[simp] theorem State.onInputs_link : (s.onInputs f).link = s.link := rfl
@[simp] theorem State.onInputs_peers : (s.onInputs f).peers = s.peers := rfl
@[simp] theorem State.onInputs_stage : (s.onInputs f).stage = s.stage := rfl
@[simp] theorem State.onInputs_head : (s.onInputs f).head = s.head := rfl
@[simp] theorem State.onInputs_arb : (s.onInputs f).arb = s.arb := rfl
@[simp] theorem State.onInputs_pumps : (s.onInputs f).pumps = s.pumps := rfl
@[simp] theorem State.onInputs_lamps : (s.onInputs f).lamps = s.lamps := rfl
@[simp] theorem State.onInputs_gate : (s.onInputs f).gate = s.gate := rfl
@[simp] theorem State.onInputs_order : (s.onInputs f).order = s.order := rfl
@[simp] theorem State.onInputs_free : (s.onInputs f).free = s.free := rfl
@[simp] theorem State.onInputs_pending : (s.onInputs f).pending = s.pending := rfl
@[simp] theorem State.onInputs_cfg : (s.onInputs f).cfg = s.cfg := rfl
@[simp] theorem State.onInputs_mode : (s.onInputs f).mode = s.mode := rfl
end

section
variable (s : State) (f : Dividers → Dividers)
@[simp] theorem State.onDiv_loader : (s.onDiv f).loader = s.loader := rfl
@[simp] theorem State.onDiv_inputs : (s.onDiv f).inputs = s.inputs := rfl
@[simp] theorem State.onDiv_div : (s.onDiv f).div = f s.div := rfl
@[simp] theorem State.onDiv_probes : (s.onDiv f).probes = s.probes := rfl
@[simp] theorem State.onDiv_link : (s.onDiv f).link = s.link := rfl
@[simp] theorem State.onDiv_peers : (s.onDiv f).peers = s.peers := rfl
@[simp] theorem State.onDiv_stage : (s.onDiv f).stage = s.stage := rfl
@[simp] theorem State.onDiv_head : (s.onDiv f).head = s.head := rfl
@[simp] theorem State.onDiv_arb : (s.onDiv f).arb = s.arb := rfl
@[simp] theorem State.onDiv_pumps : (s.onDiv f).pumps = s.pumps := rfl
@[simp] theorem State.onDiv_lamps : (s.onDiv f).lamps = s.lamps := rfl
@[simp] theorem State.onDiv_gate : (s.onDiv f).gate = s.gate := rfl
@[simp] theorem State.onDiv_order : (s.onDiv f).order = s.order := rfl
@[simp] theorem State.onDiv_free : (s.onDiv f).free = s.free := rfl
@[simp] theorem State.onDiv_pending : (s.onDiv f).pending = s.pending := rfl
@[simp] theorem State.onDiv_cfg : (s.onDiv f).cfg = s.cfg := rfl
@[simp] theorem State.onDiv_mode : (s.onDiv f).mode = s.mode := rfl
end

section
variable (s : State) (f : ProbeUnit → ProbeUnit)
@[simp] theorem State.onProbes_loader : (s.onProbes f).loader = s.loader := rfl
@[simp] theorem State.onProbes_inputs : (s.onProbes f).inputs = s.inputs := rfl
@[simp] theorem State.onProbes_div : (s.onProbes f).div = s.div := rfl
@[simp] theorem State.onProbes_probes : (s.onProbes f).probes = f s.probes := rfl
@[simp] theorem State.onProbes_link : (s.onProbes f).link = s.link := rfl
@[simp] theorem State.onProbes_peers : (s.onProbes f).peers = s.peers := rfl
@[simp] theorem State.onProbes_stage : (s.onProbes f).stage = s.stage := rfl
@[simp] theorem State.onProbes_head : (s.onProbes f).head = s.head := rfl
@[simp] theorem State.onProbes_arb : (s.onProbes f).arb = s.arb := rfl
@[simp] theorem State.onProbes_pumps : (s.onProbes f).pumps = s.pumps := rfl
@[simp] theorem State.onProbes_lamps : (s.onProbes f).lamps = s.lamps := rfl
@[simp] theorem State.onProbes_gate : (s.onProbes f).gate = s.gate := rfl
@[simp] theorem State.onProbes_order : (s.onProbes f).order = s.order := rfl
@[simp] theorem State.onProbes_free : (s.onProbes f).free = s.free := rfl
@[simp] theorem State.onProbes_pending : (s.onProbes f).pending = s.pending := rfl
@[simp] theorem State.onProbes_cfg : (s.onProbes f).cfg = s.cfg := rfl
@[simp] theorem State.onProbes_mode : (s.onProbes f).mode = s.mode := rfl
end

section
variable (s : State) (f : Link → Link)
@[simp] theorem State.onLink_loader : (s.onLink f).loader = s.loader := rfl
@[simp] theorem State.onLink_inputs : (s.onLink f).inputs = s.inputs := rfl
@[simp] theorem State.onLink_div : (s.onLink f).div = s.div := rfl
@[simp] theorem State.onLink_probes : (s.onLink f).probes = s.probes := rfl
@[simp] theorem State.onLink_link : (s.onLink f).link = f s.link := rfl
@[simp] theorem State.onLink_peers : (s.onLink f).peers = s.peers := rfl
@[simp] theorem State.onLink_stage : (s.onLink f).stage = s.stage := rfl
@[simp] theorem State.onLink_head : (s.onLink f).head = s.head := rfl
@[simp] theorem State.onLink_arb : (s.onLink f).arb = s.arb := rfl
@[simp] theorem State.onLink_pumps : (s.onLink f).pumps = s.pumps := rfl
@[simp] theorem State.onLink_lamps : (s.onLink f).lamps = s.lamps := rfl
@[simp] theorem State.onLink_gate : (s.onLink f).gate = s.gate := rfl
@[simp] theorem State.onLink_order : (s.onLink f).order = s.order := rfl
@[simp] theorem State.onLink_free : (s.onLink f).free = s.free := rfl
@[simp] theorem State.onLink_pending : (s.onLink f).pending = s.pending := rfl
@[simp] theorem State.onLink_cfg : (s.onLink f).cfg = s.cfg := rfl
@[simp] theorem State.onLink_mode : (s.onLink f).mode = s.mode := rfl
end

section
variable (s : State) (f : PeerTable → PeerTable)
@[simp] theorem State.onPeers_loader : (s.onPeers f).loader = s.loader := rfl
@[simp] theorem State.onPeers_inputs : (s.onPeers f).inputs = s.inputs := rfl
@[simp] theorem State.onPeers_div : (s.onPeers f).div = s.div := rfl
@[simp] theorem State.onPeers_probes : (s.onPeers f).probes = s.probes := rfl
@[simp] theorem State.onPeers_link : (s.onPeers f).link = s.link := rfl
@[simp] theorem State.onPeers_peers : (s.onPeers f).peers = f s.peers := rfl
@[simp] theorem State.onPeers_stage : (s.onPeers f).stage = s.stage := rfl
@[simp] theorem State.onPeers_head : (s.onPeers f).head = s.head := rfl
@[simp] theorem State.onPeers_arb : (s.onPeers f).arb = s.arb := rfl
@[simp] theorem State.onPeers_pumps : (s.onPeers f).pumps = s.pumps := rfl
@[simp] theorem State.onPeers_lamps : (s.onPeers f).lamps = s.lamps := rfl
@[simp] theorem State.onPeers_gate : (s.onPeers f).gate = s.gate := rfl
@[simp] theorem State.onPeers_order : (s.onPeers f).order = s.order := rfl
@[simp] theorem State.onPeers_free : (s.onPeers f).free = s.free := rfl
@[simp] theorem State.onPeers_pending : (s.onPeers f).pending = s.pending := rfl
@[simp] theorem State.onPeers_cfg : (s.onPeers f).cfg = s.cfg := rfl
@[simp] theorem State.onPeers_mode : (s.onPeers f).mode = s.mode := rfl
end

section
variable (s : State) (f : StageMonitor → StageMonitor)
@[simp] theorem State.onStage_loader : (s.onStage f).loader = s.loader := rfl
@[simp] theorem State.onStage_inputs : (s.onStage f).inputs = s.inputs := rfl
@[simp] theorem State.onStage_div : (s.onStage f).div = s.div := rfl
@[simp] theorem State.onStage_probes : (s.onStage f).probes = s.probes := rfl
@[simp] theorem State.onStage_link : (s.onStage f).link = s.link := rfl
@[simp] theorem State.onStage_peers : (s.onStage f).peers = s.peers := rfl
@[simp] theorem State.onStage_stage : (s.onStage f).stage = f s.stage := rfl
@[simp] theorem State.onStage_head : (s.onStage f).head = s.head := rfl
@[simp] theorem State.onStage_arb : (s.onStage f).arb = s.arb := rfl
@[simp] theorem State.onStage_pumps : (s.onStage f).pumps = s.pumps := rfl
@[simp] theorem State.onStage_lamps : (s.onStage f).lamps = s.lamps := rfl
@[simp] theorem State.onStage_gate : (s.onStage f).gate = s.gate := rfl
@[simp] theorem State.onStage_order : (s.onStage f).order = s.order := rfl
@[simp] theorem State.onStage_free : (s.onStage f).free = s.free := rfl
@[simp] theorem State.onStage_pending : (s.onStage f).pending = s.pending := rfl
@[simp] theorem State.onStage_cfg : (s.onStage f).cfg = s.cfg := rfl
@[simp] theorem State.onStage_mode : (s.onStage f).mode = s.mode := rfl
end

section
variable (s : State) (f : Headroom → Headroom)
@[simp] theorem State.onHead_loader : (s.onHead f).loader = s.loader := rfl
@[simp] theorem State.onHead_inputs : (s.onHead f).inputs = s.inputs := rfl
@[simp] theorem State.onHead_div : (s.onHead f).div = s.div := rfl
@[simp] theorem State.onHead_probes : (s.onHead f).probes = s.probes := rfl
@[simp] theorem State.onHead_link : (s.onHead f).link = s.link := rfl
@[simp] theorem State.onHead_peers : (s.onHead f).peers = s.peers := rfl
@[simp] theorem State.onHead_stage : (s.onHead f).stage = s.stage := rfl
@[simp] theorem State.onHead_head : (s.onHead f).head = f s.head := rfl
@[simp] theorem State.onHead_arb : (s.onHead f).arb = s.arb := rfl
@[simp] theorem State.onHead_pumps : (s.onHead f).pumps = s.pumps := rfl
@[simp] theorem State.onHead_lamps : (s.onHead f).lamps = s.lamps := rfl
@[simp] theorem State.onHead_gate : (s.onHead f).gate = s.gate := rfl
@[simp] theorem State.onHead_order : (s.onHead f).order = s.order := rfl
@[simp] theorem State.onHead_free : (s.onHead f).free = s.free := rfl
@[simp] theorem State.onHead_pending : (s.onHead f).pending = s.pending := rfl
@[simp] theorem State.onHead_cfg : (s.onHead f).cfg = s.cfg := rfl
@[simp] theorem State.onHead_mode : (s.onHead f).mode = s.mode := rfl
end

section
variable (s : State) (f : Arbiter → Arbiter)
@[simp] theorem State.onArb_loader : (s.onArb f).loader = s.loader := rfl
@[simp] theorem State.onArb_inputs : (s.onArb f).inputs = s.inputs := rfl
@[simp] theorem State.onArb_div : (s.onArb f).div = s.div := rfl
@[simp] theorem State.onArb_probes : (s.onArb f).probes = s.probes := rfl
@[simp] theorem State.onArb_link : (s.onArb f).link = s.link := rfl
@[simp] theorem State.onArb_peers : (s.onArb f).peers = s.peers := rfl
@[simp] theorem State.onArb_stage : (s.onArb f).stage = s.stage := rfl
@[simp] theorem State.onArb_head : (s.onArb f).head = s.head := rfl
@[simp] theorem State.onArb_arb : (s.onArb f).arb = f s.arb := rfl
@[simp] theorem State.onArb_pumps : (s.onArb f).pumps = s.pumps := rfl
@[simp] theorem State.onArb_lamps : (s.onArb f).lamps = s.lamps := rfl
@[simp] theorem State.onArb_gate : (s.onArb f).gate = s.gate := rfl
@[simp] theorem State.onArb_order : (s.onArb f).order = s.order := rfl
@[simp] theorem State.onArb_free : (s.onArb f).free = s.free := rfl
@[simp] theorem State.onArb_pending : (s.onArb f).pending = s.pending := rfl
@[simp] theorem State.onArb_cfg : (s.onArb f).cfg = s.cfg := rfl
@[simp] theorem State.onArb_mode : (s.onArb f).mode = s.mode := rfl
end

section
variable (s : State) (f : PumpControl → PumpControl)
@[simp] theorem State.onPumps_loader : (s.onPumps f).loader = s.loader := rfl
@[simp] theorem State.onPumps_inputs : (s.onPumps f).inputs = s.inputs := rfl
@[simp] theorem State.onPumps_div : (s.onPumps f).div = s.div := rfl
@[simp] theorem State.onPumps_probes : (s.onPumps f).probes = s.probes := rfl
@[simp] theorem State.onPumps_link : (s.onPumps f).link = s.link := rfl
@[simp] theorem State.onPumps_peers : (s.onPumps f).peers = s.peers := rfl
@[simp] theorem State.onPumps_stage : (s.onPumps f).stage = s.stage := rfl
@[simp] theorem State.onPumps_head : (s.onPumps f).head = s.head := rfl
@[simp] theorem State.onPumps_arb : (s.onPumps f).arb = s.arb := rfl
@[simp] theorem State.onPumps_pumps : (s.onPumps f).pumps = f s.pumps := rfl
@[simp] theorem State.onPumps_lamps : (s.onPumps f).lamps = s.lamps := rfl
@[simp] theorem State.onPumps_gate : (s.onPumps f).gate = s.gate := rfl
@[simp] theorem State.onPumps_order : (s.onPumps f).order = s.order := rfl
@[simp] theorem State.onPumps_free : (s.onPumps f).free = s.free := rfl
@[simp] theorem State.onPumps_pending : (s.onPumps f).pending = s.pending := rfl
@[simp] theorem State.onPumps_cfg : (s.onPumps f).cfg = s.cfg := rfl
@[simp] theorem State.onPumps_mode : (s.onPumps f).mode = s.mode := rfl
end

section
variable (s : State) (f : LampControl → LampControl)
@[simp] theorem State.onLamps_loader : (s.onLamps f).loader = s.loader := rfl
@[simp] theorem State.onLamps_inputs : (s.onLamps f).inputs = s.inputs := rfl
@[simp] theorem State.onLamps_div : (s.onLamps f).div = s.div := rfl
@[simp] theorem State.onLamps_probes : (s.onLamps f).probes = s.probes := rfl
@[simp] theorem State.onLamps_link : (s.onLamps f).link = s.link := rfl
@[simp] theorem State.onLamps_peers : (s.onLamps f).peers = s.peers := rfl
@[simp] theorem State.onLamps_stage : (s.onLamps f).stage = s.stage := rfl
@[simp] theorem State.onLamps_head : (s.onLamps f).head = s.head := rfl
@[simp] theorem State.onLamps_arb : (s.onLamps f).arb = s.arb := rfl
@[simp] theorem State.onLamps_pumps : (s.onLamps f).pumps = s.pumps := rfl
@[simp] theorem State.onLamps_lamps : (s.onLamps f).lamps = f s.lamps := rfl
@[simp] theorem State.onLamps_gate : (s.onLamps f).gate = s.gate := rfl
@[simp] theorem State.onLamps_order : (s.onLamps f).order = s.order := rfl
@[simp] theorem State.onLamps_free : (s.onLamps f).free = s.free := rfl
@[simp] theorem State.onLamps_pending : (s.onLamps f).pending = s.pending := rfl
@[simp] theorem State.onLamps_cfg : (s.onLamps f).cfg = s.cfg := rfl
@[simp] theorem State.onLamps_mode : (s.onLamps f).mode = s.mode := rfl
end

section
variable (s : State) (f : GateControl → GateControl)
@[simp] theorem State.onGate_loader : (s.onGate f).loader = s.loader := rfl
@[simp] theorem State.onGate_inputs : (s.onGate f).inputs = s.inputs := rfl
@[simp] theorem State.onGate_div : (s.onGate f).div = s.div := rfl
@[simp] theorem State.onGate_probes : (s.onGate f).probes = s.probes := rfl
@[simp] theorem State.onGate_link : (s.onGate f).link = s.link := rfl
@[simp] theorem State.onGate_peers : (s.onGate f).peers = s.peers := rfl
@[simp] theorem State.onGate_stage : (s.onGate f).stage = s.stage := rfl
@[simp] theorem State.onGate_head : (s.onGate f).head = s.head := rfl
@[simp] theorem State.onGate_arb : (s.onGate f).arb = s.arb := rfl
@[simp] theorem State.onGate_pumps : (s.onGate f).pumps = s.pumps := rfl
@[simp] theorem State.onGate_lamps : (s.onGate f).lamps = s.lamps := rfl
@[simp] theorem State.onGate_gate : (s.onGate f).gate = f s.gate := rfl
@[simp] theorem State.onGate_order : (s.onGate f).order = s.order := rfl
@[simp] theorem State.onGate_free : (s.onGate f).free = s.free := rfl
@[simp] theorem State.onGate_pending : (s.onGate f).pending = s.pending := rfl
@[simp] theorem State.onGate_cfg : (s.onGate f).cfg = s.cfg := rfl
@[simp] theorem State.onGate_mode : (s.onGate f).mode = s.mode := rfl
end

section
variable (s : State) (v : Option ReportRecord)
@[simp] theorem State.withOrder_loader : (s.withOrder v).loader = s.loader := rfl
@[simp] theorem State.withOrder_inputs : (s.withOrder v).inputs = s.inputs := rfl
@[simp] theorem State.withOrder_div : (s.withOrder v).div = s.div := rfl
@[simp] theorem State.withOrder_probes : (s.withOrder v).probes = s.probes := rfl
@[simp] theorem State.withOrder_link : (s.withOrder v).link = s.link := rfl
@[simp] theorem State.withOrder_peers : (s.withOrder v).peers = s.peers := rfl
@[simp] theorem State.withOrder_stage : (s.withOrder v).stage = s.stage := rfl
@[simp] theorem State.withOrder_head : (s.withOrder v).head = s.head := rfl
@[simp] theorem State.withOrder_arb : (s.withOrder v).arb = s.arb := rfl
@[simp] theorem State.withOrder_pumps : (s.withOrder v).pumps = s.pumps := rfl
@[simp] theorem State.withOrder_lamps : (s.withOrder v).lamps = s.lamps := rfl
@[simp] theorem State.withOrder_gate : (s.withOrder v).gate = s.gate := rfl
@[simp] theorem State.withOrder_order : (s.withOrder v).order = v := rfl
@[simp] theorem State.withOrder_free : (s.withOrder v).free = s.free := rfl
@[simp] theorem State.withOrder_pending : (s.withOrder v).pending = s.pending := rfl
@[simp] theorem State.withOrder_cfg : (s.withOrder v).cfg = s.cfg := rfl
@[simp] theorem State.withOrder_mode : (s.withOrder v).mode = s.mode := rfl
end

section
variable (s : State) (v : Nat)
@[simp] theorem State.withFree_loader : (s.withFree v).loader = s.loader := rfl
@[simp] theorem State.withFree_inputs : (s.withFree v).inputs = s.inputs := rfl
@[simp] theorem State.withFree_div : (s.withFree v).div = s.div := rfl
@[simp] theorem State.withFree_probes : (s.withFree v).probes = s.probes := rfl
@[simp] theorem State.withFree_link : (s.withFree v).link = s.link := rfl
@[simp] theorem State.withFree_peers : (s.withFree v).peers = s.peers := rfl
@[simp] theorem State.withFree_stage : (s.withFree v).stage = s.stage := rfl
@[simp] theorem State.withFree_head : (s.withFree v).head = s.head := rfl
@[simp] theorem State.withFree_arb : (s.withFree v).arb = s.arb := rfl
@[simp] theorem State.withFree_pumps : (s.withFree v).pumps = s.pumps := rfl
@[simp] theorem State.withFree_lamps : (s.withFree v).lamps = s.lamps := rfl
@[simp] theorem State.withFree_gate : (s.withFree v).gate = s.gate := rfl
@[simp] theorem State.withFree_order : (s.withFree v).order = s.order := rfl
@[simp] theorem State.withFree_free : (s.withFree v).free = v := rfl
@[simp] theorem State.withFree_pending : (s.withFree v).pending = s.pending := rfl
@[simp] theorem State.withFree_cfg : (s.withFree v).cfg = s.cfg := rfl
@[simp] theorem State.withFree_mode : (s.withFree v).mode = s.mode := rfl
end

section
variable (s : State) (v : List Instr)
@[simp] theorem State.withPending_loader : (s.withPending v).loader = s.loader := rfl
@[simp] theorem State.withPending_inputs : (s.withPending v).inputs = s.inputs := rfl
@[simp] theorem State.withPending_div : (s.withPending v).div = s.div := rfl
@[simp] theorem State.withPending_probes : (s.withPending v).probes = s.probes := rfl
@[simp] theorem State.withPending_link : (s.withPending v).link = s.link := rfl
@[simp] theorem State.withPending_peers : (s.withPending v).peers = s.peers := rfl
@[simp] theorem State.withPending_stage : (s.withPending v).stage = s.stage := rfl
@[simp] theorem State.withPending_head : (s.withPending v).head = s.head := rfl
@[simp] theorem State.withPending_arb : (s.withPending v).arb = s.arb := rfl
@[simp] theorem State.withPending_pumps : (s.withPending v).pumps = s.pumps := rfl
@[simp] theorem State.withPending_lamps : (s.withPending v).lamps = s.lamps := rfl
@[simp] theorem State.withPending_gate : (s.withPending v).gate = s.gate := rfl
@[simp] theorem State.withPending_order : (s.withPending v).order = s.order := rfl
@[simp] theorem State.withPending_free : (s.withPending v).free = s.free := rfl
@[simp] theorem State.withPending_pending : (s.withPending v).pending = v := rfl
@[simp] theorem State.withPending_cfg : (s.withPending v).cfg = s.cfg := rfl
@[simp] theorem State.withPending_mode : (s.withPending v).mode = s.mode := rfl
end

/-- A pump's record after a change of one pump. -/
theorem PerPump.get_upd {α : Type} (x : PerPump α) (p q : PumpId) (f : α → α) :
    (x.upd p f).get q = if p = q then f (x.get q) else x.get q := by
  cases p <;> cases q <;> rfl

/-- A loop's value after a change of one loop. -/
theorem PerLoop.get_upd {α : Type} (x : PerLoop α) (l m : LoopId) (f : α → α) :
    (x.upd l f).get m = if l = m then f (x.get m) else x.get m := by
  cases l <;> cases m <;> rfl

/-- A channel's value of a built four. -/
@[simp] theorem PerChannel.get_build {α : Type} (f : ChannelId → α) (ch : ChannelId) :
    (PerChannel.build f).get ch = f ch := by
  cases ch <;> rfl

end Sys2Proof.Machine
end

