-- ==== Sys2Proof/Laws/Frames.lean ====
section
/-! SUPPORT. The frame of each shared operation: what it leaves unchanged, one lemma per operation. -/

namespace Sys2Proof.Machine

set_option linter.unusedTactic false
set_option linter.unreachableTactic false
set_option linter.unnecessarySeqFocus false

@[simp] theorem onCounters_frame (s : State) (f : LinkCounters → LinkCounters) :
    (onCounters s f).loader = s.loader ∧ (onCounters s f).inputs = s.inputs ∧ (onCounters s f).div = s.div ∧
    (onCounters s f).probes = s.probes ∧ (onCounters s f).peers = s.peers ∧ (onCounters s f).stage = s.stage ∧
    (onCounters s f).head = s.head ∧ (onCounters s f).arb = s.arb ∧ (onCounters s f).pumps = s.pumps ∧
    (onCounters s f).lamps = s.lamps ∧ (onCounters s f).gate = s.gate ∧ (onCounters s f).order = s.order ∧
    (onCounters s f).free = s.free ∧ (onCounters s f).pending = s.pending ∧ (onCounters s f).cfg = s.cfg ∧
    (onCounters s f).mode = s.mode := by
  unfold onCounters; (repeat' split) <;> simp

@[simp] theorem countRxOk_frame (s : State) :
    (countRxOk s).loader = s.loader ∧ (countRxOk s).inputs = s.inputs ∧ (countRxOk s).div = s.div ∧
    (countRxOk s).probes = s.probes ∧ (countRxOk s).peers = s.peers ∧ (countRxOk s).stage = s.stage ∧
    (countRxOk s).head = s.head ∧ (countRxOk s).arb = s.arb ∧ (countRxOk s).pumps = s.pumps ∧
    (countRxOk s).lamps = s.lamps ∧ (countRxOk s).gate = s.gate ∧ (countRxOk s).order = s.order ∧
    (countRxOk s).free = s.free ∧ (countRxOk s).pending = s.pending ∧ (countRxOk s).cfg = s.cfg ∧
    (countRxOk s).mode = s.mode := by
  unfold countRxOk; (repeat' split) <;> simp

@[simp] theorem countCrcErr_frame (s : State) :
    (countCrcErr s).loader = s.loader ∧ (countCrcErr s).inputs = s.inputs ∧ (countCrcErr s).div = s.div ∧
    (countCrcErr s).probes = s.probes ∧ (countCrcErr s).peers = s.peers ∧ (countCrcErr s).stage = s.stage ∧
    (countCrcErr s).head = s.head ∧ (countCrcErr s).arb = s.arb ∧ (countCrcErr s).pumps = s.pumps ∧
    (countCrcErr s).lamps = s.lamps ∧ (countCrcErr s).gate = s.gate ∧ (countCrcErr s).order = s.order ∧
    (countCrcErr s).free = s.free ∧ (countCrcErr s).pending = s.pending ∧ (countCrcErr s).cfg = s.cfg ∧
    (countCrcErr s).mode = s.mode := by
  unfold countCrcErr; (repeat' split) <;> simp

@[simp] theorem countLengthErr_frame (s : State) :
    (countLengthErr s).loader = s.loader ∧ (countLengthErr s).inputs = s.inputs ∧ (countLengthErr s).div = s.div ∧
    (countLengthErr s).probes = s.probes ∧ (countLengthErr s).peers = s.peers ∧
    (countLengthErr s).stage = s.stage ∧ (countLengthErr s).head = s.head ∧ (countLengthErr s).arb = s.arb ∧
    (countLengthErr s).pumps = s.pumps ∧ (countLengthErr s).lamps = s.lamps ∧ (countLengthErr s).gate = s.gate ∧
    (countLengthErr s).order = s.order ∧ (countLengthErr s).free = s.free ∧
    (countLengthErr s).pending = s.pending ∧ (countLengthErr s).cfg = s.cfg ∧ (countLengthErr s).mode = s.mode := by
  unfold countLengthErr; (repeat' split) <;> simp

@[simp] theorem countUnknownKind_frame (s : State) :
    (countUnknownKind s).loader = s.loader ∧ (countUnknownKind s).inputs = s.inputs ∧
    (countUnknownKind s).div = s.div ∧ (countUnknownKind s).probes = s.probes ∧
    (countUnknownKind s).peers = s.peers ∧ (countUnknownKind s).stage = s.stage ∧
    (countUnknownKind s).head = s.head ∧ (countUnknownKind s).arb = s.arb ∧ (countUnknownKind s).pumps = s.pumps ∧
    (countUnknownKind s).lamps = s.lamps ∧ (countUnknownKind s).gate = s.gate ∧
    (countUnknownKind s).order = s.order ∧ (countUnknownKind s).free = s.free ∧
    (countUnknownKind s).pending = s.pending ∧ (countUnknownKind s).cfg = s.cfg ∧
    (countUnknownKind s).mode = s.mode := by
  unfold countUnknownKind; (repeat' split) <;> simp

@[simp] theorem countForeign_frame (s : State) :
    (countForeign s).loader = s.loader ∧ (countForeign s).inputs = s.inputs ∧ (countForeign s).div = s.div ∧
    (countForeign s).probes = s.probes ∧ (countForeign s).peers = s.peers ∧ (countForeign s).stage = s.stage ∧
    (countForeign s).head = s.head ∧ (countForeign s).arb = s.arb ∧ (countForeign s).pumps = s.pumps ∧
    (countForeign s).lamps = s.lamps ∧ (countForeign s).gate = s.gate ∧ (countForeign s).order = s.order ∧
    (countForeign s).free = s.free ∧ (countForeign s).pending = s.pending ∧ (countForeign s).cfg = s.cfg ∧
    (countForeign s).mode = s.mode := by
  unfold countForeign; (repeat' split) <;> simp

@[simp] theorem countFragment_frame (s : State) :
    (countFragment s).loader = s.loader ∧ (countFragment s).inputs = s.inputs ∧ (countFragment s).div = s.div ∧
    (countFragment s).probes = s.probes ∧ (countFragment s).peers = s.peers ∧ (countFragment s).stage = s.stage ∧
    (countFragment s).head = s.head ∧ (countFragment s).arb = s.arb ∧ (countFragment s).pumps = s.pumps ∧
    (countFragment s).lamps = s.lamps ∧ (countFragment s).gate = s.gate ∧ (countFragment s).order = s.order ∧
    (countFragment s).free = s.free ∧ (countFragment s).pending = s.pending ∧ (countFragment s).cfg = s.cfg ∧
    (countFragment s).mode = s.mode := by
  unfold countFragment; (repeat' split) <;> simp

@[simp] theorem countCollision_frame (s : State) :
    (countCollision s).loader = s.loader ∧ (countCollision s).inputs = s.inputs ∧ (countCollision s).div = s.div ∧
    (countCollision s).probes = s.probes ∧ (countCollision s).peers = s.peers ∧
    (countCollision s).stage = s.stage ∧ (countCollision s).head = s.head ∧ (countCollision s).arb = s.arb ∧
    (countCollision s).pumps = s.pumps ∧ (countCollision s).lamps = s.lamps ∧ (countCollision s).gate = s.gate ∧
    (countCollision s).order = s.order ∧ (countCollision s).free = s.free ∧
    (countCollision s).pending = s.pending ∧ (countCollision s).cfg = s.cfg ∧ (countCollision s).mode = s.mode := by
  unfold countCollision; (repeat' split) <;> simp

@[simp] theorem countTxDropped_frame (s : State) :
    (countTxDropped s).loader = s.loader ∧ (countTxDropped s).inputs = s.inputs ∧ (countTxDropped s).div = s.div ∧
    (countTxDropped s).probes = s.probes ∧ (countTxDropped s).peers = s.peers ∧
    (countTxDropped s).stage = s.stage ∧ (countTxDropped s).head = s.head ∧ (countTxDropped s).arb = s.arb ∧
    (countTxDropped s).pumps = s.pumps ∧ (countTxDropped s).lamps = s.lamps ∧ (countTxDropped s).gate = s.gate ∧
    (countTxDropped s).order = s.order ∧ (countTxDropped s).free = s.free ∧
    (countTxDropped s).pending = s.pending ∧ (countTxDropped s).cfg = s.cfg ∧ (countTxDropped s).mode = s.mode := by
  unfold countTxDropped; (repeat' split) <;> simp

@[simp] theorem setSlot_frame (s : State) (k : TxKind) (v : Option Nat) :
    (setSlot s k v).loader = s.loader ∧ (setSlot s k v).inputs = s.inputs ∧ (setSlot s k v).div = s.div ∧
    (setSlot s k v).probes = s.probes ∧ (setSlot s k v).peers = s.peers ∧ (setSlot s k v).stage = s.stage ∧
    (setSlot s k v).head = s.head ∧ (setSlot s k v).arb = s.arb ∧ (setSlot s k v).pumps = s.pumps ∧
    (setSlot s k v).lamps = s.lamps ∧ (setSlot s k v).gate = s.gate ∧ (setSlot s k v).order = s.order ∧
    (setSlot s k v).free = s.free ∧ (setSlot s k v).pending = s.pending ∧ (setSlot s k v).cfg = s.cfg ∧
    (setSlot s k v).mode = s.mode := by
  unfold setSlot; (repeat' split) <;> simp

@[simp] theorem queueFrame_frame (s : State) (k : TxKind) :
    (queueFrame s k).loader = s.loader ∧ (queueFrame s k).inputs = s.inputs ∧ (queueFrame s k).div = s.div ∧
    (queueFrame s k).probes = s.probes ∧ (queueFrame s k).peers = s.peers ∧ (queueFrame s k).stage = s.stage ∧
    (queueFrame s k).head = s.head ∧ (queueFrame s k).arb = s.arb ∧ (queueFrame s k).pumps = s.pumps ∧
    (queueFrame s k).lamps = s.lamps ∧ (queueFrame s k).gate = s.gate ∧ (queueFrame s k).order = s.order ∧
    (queueFrame s k).free = s.free ∧ (queueFrame s k).pending = s.pending ∧ (queueFrame s k).cfg = s.cfg ∧
    (queueFrame s k).mode = s.mode := by
  unfold queueFrame; (repeat' split) <;> simp

@[simp] theorem withdraw_frame (s : State) (k : TxKind) :
    (withdraw s k).loader = s.loader ∧ (withdraw s k).inputs = s.inputs ∧ (withdraw s k).div = s.div ∧
    (withdraw s k).probes = s.probes ∧ (withdraw s k).peers = s.peers ∧ (withdraw s k).stage = s.stage ∧
    (withdraw s k).head = s.head ∧ (withdraw s k).arb = s.arb ∧ (withdraw s k).pumps = s.pumps ∧
    (withdraw s k).lamps = s.lamps ∧ (withdraw s k).gate = s.gate ∧ (withdraw s k).order = s.order ∧
    (withdraw s k).free = s.free ∧ (withdraw s k).pending = s.pending ∧ (withdraw s k).cfg = s.cfg ∧
    (withdraw s k).mode = s.mode := by
  unfold withdraw; (repeat' split) <;> simp

@[simp] theorem promptStatus_frame (s : State) :
    (promptStatus s).loader = s.loader ∧ (promptStatus s).inputs = s.inputs ∧ (promptStatus s).div = s.div ∧
    (promptStatus s).probes = s.probes ∧ (promptStatus s).peers = s.peers ∧ (promptStatus s).stage = s.stage ∧
    (promptStatus s).head = s.head ∧ (promptStatus s).arb = s.arb ∧ (promptStatus s).pumps = s.pumps ∧
    (promptStatus s).lamps = s.lamps ∧ (promptStatus s).gate = s.gate ∧ (promptStatus s).order = s.order ∧
    (promptStatus s).free = s.free ∧ (promptStatus s).pending = s.pending ∧ (promptStatus s).cfg = s.cfg ∧
    (promptStatus s).mode = s.mode := by
  unfold promptStatus; (repeat' split) <;> simp

@[simp] theorem idleRestart_frame (s : State) :
    (idleRestart s).loader = s.loader ∧ (idleRestart s).inputs = s.inputs ∧ (idleRestart s).div = s.div ∧
    (idleRestart s).probes = s.probes ∧ (idleRestart s).peers = s.peers ∧ (idleRestart s).stage = s.stage ∧
    (idleRestart s).head = s.head ∧ (idleRestart s).arb = s.arb ∧ (idleRestart s).pumps = s.pumps ∧
    (idleRestart s).lamps = s.lamps ∧ (idleRestart s).gate = s.gate ∧ (idleRestart s).order = s.order ∧
    (idleRestart s).free = s.free ∧ (idleRestart s).pending = s.pending ∧ (idleRestart s).cfg = s.cfg ∧
    (idleRestart s).mode = s.mode := by
  unfold idleRestart; (repeat' split) <;> simp

@[simp] theorem idleStop_frame (s : State) :
    (idleStop s).loader = s.loader ∧ (idleStop s).inputs = s.inputs ∧ (idleStop s).div = s.div ∧
    (idleStop s).probes = s.probes ∧ (idleStop s).peers = s.peers ∧ (idleStop s).stage = s.stage ∧
    (idleStop s).head = s.head ∧ (idleStop s).arb = s.arb ∧ (idleStop s).pumps = s.pumps ∧
    (idleStop s).lamps = s.lamps ∧ (idleStop s).gate = s.gate ∧ (idleStop s).order = s.order ∧
    (idleStop s).free = s.free ∧ (idleStop s).pending = s.pending ∧ (idleStop s).cfg = s.cfg ∧
    (idleStop s).mode = s.mode := by
  unfold idleStop; (repeat' split) <;> simp

@[simp] theorem onEntry_frame (s : State) (r : Requester) (f : Entry → Entry) :
    (onEntry s r f).loader = s.loader ∧ (onEntry s r f).inputs = s.inputs ∧ (onEntry s r f).div = s.div ∧
    (onEntry s r f).probes = s.probes ∧ (onEntry s r f).link = s.link ∧ (onEntry s r f).peers = s.peers ∧
    (onEntry s r f).stage = s.stage ∧ (onEntry s r f).head = s.head ∧ (onEntry s r f).pumps = s.pumps ∧
    (onEntry s r f).lamps = s.lamps ∧ (onEntry s r f).gate = s.gate ∧ (onEntry s r f).order = s.order ∧
    (onEntry s r f).free = s.free ∧ (onEntry s r f).pending = s.pending ∧ (onEntry s r f).cfg = s.cfg ∧
    (onEntry s r f).mode = s.mode := by
  unfold onEntry; (repeat' split) <;> simp

@[simp] theorem post_frame (s : State) (r : Requester) (q : Reason) :
    (post s r q).loader = s.loader ∧ (post s r q).inputs = s.inputs ∧ (post s r q).div = s.div ∧
    (post s r q).probes = s.probes ∧ (post s r q).link = s.link ∧ (post s r q).peers = s.peers ∧
    (post s r q).stage = s.stage ∧ (post s r q).head = s.head ∧ (post s r q).pumps = s.pumps ∧
    (post s r q).lamps = s.lamps ∧ (post s r q).gate = s.gate ∧ (post s r q).order = s.order ∧
    (post s r q).free = s.free ∧ (post s r q).pending = s.pending ∧ (post s r q).cfg = s.cfg ∧
    (post s r q).mode = s.mode := by
  unfold post; (repeat' split) <;> simp

@[simp] theorem dropRequest_frame (s : State) (r : Requester) :
    (dropRequest s r).loader = s.loader ∧ (dropRequest s r).inputs = s.inputs ∧ (dropRequest s r).div = s.div ∧
    (dropRequest s r).probes = s.probes ∧ (dropRequest s r).link = s.link ∧ (dropRequest s r).peers = s.peers ∧
    (dropRequest s r).stage = s.stage ∧ (dropRequest s r).head = s.head ∧ (dropRequest s r).pumps = s.pumps ∧
    (dropRequest s r).lamps = s.lamps ∧ (dropRequest s r).gate = s.gate ∧ (dropRequest s r).order = s.order ∧
    (dropRequest s r).free = s.free ∧ (dropRequest s r).pending = s.pending ∧ (dropRequest s r).cfg = s.cfg ∧
    (dropRequest s r).mode = s.mode := by
  unfold dropRequest; (repeat' split) <;> simp

@[simp] theorem rearm_frame (s : State) (r : Requester) :
    (rearm s r).loader = s.loader ∧ (rearm s r).inputs = s.inputs ∧ (rearm s r).div = s.div ∧
    (rearm s r).probes = s.probes ∧ (rearm s r).link = s.link ∧ (rearm s r).peers = s.peers ∧
    (rearm s r).stage = s.stage ∧ (rearm s r).head = s.head ∧ (rearm s r).pumps = s.pumps ∧
    (rearm s r).lamps = s.lamps ∧ (rearm s r).gate = s.gate ∧ (rearm s r).order = s.order ∧
    (rearm s r).free = s.free ∧ (rearm s r).pending = s.pending ∧ (rearm s r).cfg = s.cfg ∧
    (rearm s r).mode = s.mode := by
  unfold rearm; (repeat' split) <;> simp

@[simp] theorem claimIdle_frame (s : State) :
    (claimIdle s).loader = s.loader ∧ (claimIdle s).inputs = s.inputs ∧ (claimIdle s).div = s.div ∧
    (claimIdle s).probes = s.probes ∧ (claimIdle s).link = s.link ∧ (claimIdle s).peers = s.peers ∧
    (claimIdle s).stage = s.stage ∧ (claimIdle s).head = s.head ∧ (claimIdle s).pumps = s.pumps ∧
    (claimIdle s).lamps = s.lamps ∧ (claimIdle s).gate = s.gate ∧ (claimIdle s).order = s.order ∧
    (claimIdle s).free = s.free ∧ (claimIdle s).pending = s.pending ∧ (claimIdle s).cfg = s.cfg ∧
    (claimIdle s).mode = s.mode := by
  unfold claimIdle; (repeat' split) <;> simp

@[simp] theorem clearMask_frame (s : State) (r : Requester) :
    (clearMask s r).loader = s.loader ∧ (clearMask s r).inputs = s.inputs ∧ (clearMask s r).div = s.div ∧
    (clearMask s r).probes = s.probes ∧ (clearMask s r).link = s.link ∧ (clearMask s r).peers = s.peers ∧
    (clearMask s r).stage = s.stage ∧ (clearMask s r).head = s.head ∧ (clearMask s r).pumps = s.pumps ∧
    (clearMask s r).lamps = s.lamps ∧ (clearMask s r).gate = s.gate ∧ (clearMask s r).order = s.order ∧
    (clearMask s r).free = s.free ∧ (clearMask s r).pending = s.pending ∧ (clearMask s r).cfg = s.cfg ∧
    (clearMask s r).mode = s.mode := by
  unfold clearMask; (repeat' split) <;> simp

@[simp] theorem queueDone_frame (s : State) (r : Requester) (o : DoneOutcome) :
    (queueDone s r o).loader = s.loader ∧ (queueDone s r o).inputs = s.inputs ∧ (queueDone s r o).div = s.div ∧
    (queueDone s r o).probes = s.probes ∧ (queueDone s r o).peers = s.peers ∧ (queueDone s r o).stage = s.stage ∧
    (queueDone s r o).head = s.head ∧ (queueDone s r o).pumps = s.pumps ∧ (queueDone s r o).lamps = s.lamps ∧
    (queueDone s r o).gate = s.gate ∧ (queueDone s r o).order = s.order ∧ (queueDone s r o).free = s.free ∧
    (queueDone s r o).pending = s.pending ∧ (queueDone s r o).cfg = s.cfg ∧ (queueDone s r o).mode = s.mode := by
  unfold queueDone; (repeat' split) <;> simp

@[simp] theorem cancelServed_frame (s : State) (r : Requester) :
    (cancelServed s r).loader = s.loader ∧ (cancelServed s r).inputs = s.inputs ∧ (cancelServed s r).div = s.div ∧
    (cancelServed s r).probes = s.probes ∧ (cancelServed s r).peers = s.peers ∧
    (cancelServed s r).stage = s.stage ∧ (cancelServed s r).head = s.head ∧ (cancelServed s r).pumps = s.pumps ∧
    (cancelServed s r).lamps = s.lamps ∧ (cancelServed s r).gate = s.gate ∧ (cancelServed s r).order = s.order ∧
    (cancelServed s r).free = s.free ∧ (cancelServed s r).pending = s.pending ∧ (cancelServed s r).cfg = s.cfg ∧
    (cancelServed s r).mode = s.mode := by
  unfold cancelServed; (repeat' split) <;> simp

@[simp] theorem cancelEntry_frame (s : State) (r : Requester) :
    (cancelEntry s r).loader = s.loader ∧ (cancelEntry s r).inputs = s.inputs ∧ (cancelEntry s r).div = s.div ∧
    (cancelEntry s r).probes = s.probes ∧ (cancelEntry s r).peers = s.peers ∧ (cancelEntry s r).stage = s.stage ∧
    (cancelEntry s r).head = s.head ∧ (cancelEntry s r).pumps = s.pumps ∧ (cancelEntry s r).lamps = s.lamps ∧
    (cancelEntry s r).gate = s.gate ∧ (cancelEntry s r).order = s.order ∧ (cancelEntry s r).free = s.free ∧
    (cancelEntry s r).pending = s.pending ∧ (cancelEntry s r).cfg = s.cfg ∧ (cancelEntry s r).mode = s.mode := by
  unfold cancelEntry; (repeat' split) <;> simp

@[simp] theorem setMask_frame (s : State) (r : Requester) :
    (setMask s r).loader = s.loader ∧ (setMask s r).inputs = s.inputs ∧ (setMask s r).div = s.div ∧
    (setMask s r).probes = s.probes ∧ (setMask s r).peers = s.peers ∧ (setMask s r).stage = s.stage ∧
    (setMask s r).head = s.head ∧ (setMask s r).pumps = s.pumps ∧ (setMask s r).lamps = s.lamps ∧
    (setMask s r).gate = s.gate ∧ (setMask s r).order = s.order ∧ (setMask s r).free = s.free ∧
    (setMask s r).pending = s.pending ∧ (setMask s r).cfg = s.cfg ∧ (setMask s r).mode = s.mode := by
  unfold setMask; (repeat' split) <;> simp

@[simp] theorem storeHeadroom_frame (s : State) :
    (storeHeadroom s).loader = s.loader ∧ (storeHeadroom s).inputs = s.inputs ∧ (storeHeadroom s).div = s.div ∧
    (storeHeadroom s).probes = s.probes ∧ (storeHeadroom s).link = s.link ∧ (storeHeadroom s).peers = s.peers ∧
    (storeHeadroom s).stage = s.stage ∧ (storeHeadroom s).arb = s.arb ∧ (storeHeadroom s).pumps = s.pumps ∧
    (storeHeadroom s).lamps = s.lamps ∧ (storeHeadroom s).gate = s.gate ∧ (storeHeadroom s).order = s.order ∧
    (storeHeadroom s).free = s.free ∧ (storeHeadroom s).pending = s.pending ∧ (storeHeadroom s).cfg = s.cfg ∧
    (storeHeadroom s).mode = s.mode := by
  unfold storeHeadroom; (repeat' split) <;> simp

@[simp] theorem judgeShed_frame (s : State) :
    (judgeShed s).loader = s.loader ∧ (judgeShed s).inputs = s.inputs ∧ (judgeShed s).div = s.div ∧
    (judgeShed s).probes = s.probes ∧ (judgeShed s).link = s.link ∧ (judgeShed s).peers = s.peers ∧
    (judgeShed s).stage = s.stage ∧ (judgeShed s).arb = s.arb ∧ (judgeShed s).pumps = s.pumps ∧
    (judgeShed s).lamps = s.lamps ∧ (judgeShed s).gate = s.gate ∧ (judgeShed s).order = s.order ∧
    (judgeShed s).free = s.free ∧ (judgeShed s).pending = s.pending ∧ (judgeShed s).cfg = s.cfg ∧
    (judgeShed s).mode = s.mode := by
  unfold judgeShed; (repeat' split) <;> simp

@[simp] theorem recomputeDuties_frame (s : State) :
    (recomputeDuties s).loader = s.loader ∧ (recomputeDuties s).inputs = s.inputs ∧
    (recomputeDuties s).div = s.div ∧ (recomputeDuties s).probes = s.probes ∧ (recomputeDuties s).link = s.link ∧
    (recomputeDuties s).peers = s.peers ∧ (recomputeDuties s).stage = s.stage ∧ (recomputeDuties s).head = s.head ∧
    (recomputeDuties s).arb = s.arb ∧ (recomputeDuties s).pumps = s.pumps ∧ (recomputeDuties s).gate = s.gate ∧
    (recomputeDuties s).order = s.order ∧ (recomputeDuties s).free = s.free ∧
    (recomputeDuties s).pending = s.pending ∧ (recomputeDuties s).cfg = s.cfg ∧ (recomputeDuties s).mode = s.mode := by
  unfold recomputeDuties; (repeat' split) <;> simp

@[simp] theorem judgeWarning_frame (s : State) :
    (judgeWarning s).loader = s.loader ∧ (judgeWarning s).inputs = s.inputs ∧ (judgeWarning s).div = s.div ∧
    (judgeWarning s).probes = s.probes ∧ (judgeWarning s).link = s.link ∧ (judgeWarning s).peers = s.peers ∧
    (judgeWarning s).stage = s.stage ∧ (judgeWarning s).head = s.head ∧ (judgeWarning s).arb = s.arb ∧
    (judgeWarning s).pumps = s.pumps ∧ (judgeWarning s).gate = s.gate ∧ (judgeWarning s).order = s.order ∧
    (judgeWarning s).free = s.free ∧ (judgeWarning s).pending = s.pending ∧ (judgeWarning s).cfg = s.cfg ∧
    (judgeWarning s).mode = s.mode := by
  unfold judgeWarning; (repeat' split) <;> simp

@[simp] theorem setBank_frame (s : State) (b : Bank) :
    (setBank s b).loader = s.loader ∧ (setBank s b).inputs = s.inputs ∧ (setBank s b).div = s.div ∧
    (setBank s b).probes = s.probes ∧ (setBank s b).link = s.link ∧ (setBank s b).peers = s.peers ∧
    (setBank s b).stage = s.stage ∧ (setBank s b).head = s.head ∧ (setBank s b).arb = s.arb ∧
    (setBank s b).pumps = s.pumps ∧ (setBank s b).gate = s.gate ∧ (setBank s b).order = s.order ∧
    (setBank s b).free = s.free ∧ (setBank s b).pending = s.pending ∧ (setBank s b).cfg = s.cfg ∧
    (setBank s b).mode = s.mode := by
  unfold setBank; (repeat' split) <;> simp

@[simp] theorem postRelight_frame (s : State) :
    (postRelight s).loader = s.loader ∧ (postRelight s).inputs = s.inputs ∧ (postRelight s).div = s.div ∧
    (postRelight s).probes = s.probes ∧ (postRelight s).link = s.link ∧ (postRelight s).peers = s.peers ∧
    (postRelight s).stage = s.stage ∧ (postRelight s).head = s.head ∧ (postRelight s).pumps = s.pumps ∧
    (postRelight s).lamps = s.lamps ∧ (postRelight s).gate = s.gate ∧ (postRelight s).order = s.order ∧
    (postRelight s).free = s.free ∧ (postRelight s).pending = s.pending ∧ (postRelight s).cfg = s.cfg ∧
    (postRelight s).mode = s.mode := by
  unfold postRelight; (repeat' split) <;> simp

@[simp] theorem lampsSupplyLost_frame (s : State) :
    (lampsSupplyLost s).loader = s.loader ∧ (lampsSupplyLost s).inputs = s.inputs ∧
    (lampsSupplyLost s).div = s.div ∧ (lampsSupplyLost s).probes = s.probes ∧ (lampsSupplyLost s).peers = s.peers ∧
    (lampsSupplyLost s).stage = s.stage ∧ (lampsSupplyLost s).head = s.head ∧ (lampsSupplyLost s).pumps = s.pumps ∧
    (lampsSupplyLost s).gate = s.gate ∧ (lampsSupplyLost s).order = s.order ∧ (lampsSupplyLost s).free = s.free ∧
    (lampsSupplyLost s).pending = s.pending ∧ (lampsSupplyLost s).cfg = s.cfg ∧ (lampsSupplyLost s).mode = s.mode := by
  unfold lampsSupplyLost; (repeat' split) <;> simp <;> (repeat' split) <;> simp

@[simp] theorem lampsSurgeStart_frame (s : State) :
    (lampsSurgeStart s).loader = s.loader ∧ (lampsSurgeStart s).inputs = s.inputs ∧
    (lampsSurgeStart s).div = s.div ∧ (lampsSurgeStart s).probes = s.probes ∧ (lampsSurgeStart s).link = s.link ∧
    (lampsSurgeStart s).peers = s.peers ∧ (lampsSurgeStart s).stage = s.stage ∧ (lampsSurgeStart s).head = s.head ∧
    (lampsSurgeStart s).arb = s.arb ∧ (lampsSurgeStart s).pumps = s.pumps ∧ (lampsSurgeStart s).gate = s.gate ∧
    (lampsSurgeStart s).order = s.order ∧ (lampsSurgeStart s).free = s.free ∧
    (lampsSurgeStart s).pending = s.pending ∧ (lampsSurgeStart s).cfg = s.cfg ∧ (lampsSurgeStart s).mode = s.mode := by
  unfold lampsSurgeStart; (repeat' split) <;> simp

@[simp] theorem lampsSurgeEnd_frame (s : State) :
    (lampsSurgeEnd s).loader = s.loader ∧ (lampsSurgeEnd s).inputs = s.inputs ∧ (lampsSurgeEnd s).div = s.div ∧
    (lampsSurgeEnd s).probes = s.probes ∧ (lampsSurgeEnd s).link = s.link ∧ (lampsSurgeEnd s).peers = s.peers ∧
    (lampsSurgeEnd s).stage = s.stage ∧ (lampsSurgeEnd s).arb = s.arb ∧ (lampsSurgeEnd s).pumps = s.pumps ∧
    (lampsSurgeEnd s).gate = s.gate ∧ (lampsSurgeEnd s).order = s.order ∧ (lampsSurgeEnd s).free = s.free ∧
    (lampsSurgeEnd s).pending = s.pending ∧ (lampsSurgeEnd s).cfg = s.cfg ∧ (lampsSurgeEnd s).mode = s.mode := by
  unfold lampsSurgeEnd; (repeat' split) <;> simp

@[simp] theorem lampsAbandoned_frame (s : State) :
    (lampsAbandoned s).loader = s.loader ∧ (lampsAbandoned s).inputs = s.inputs ∧ (lampsAbandoned s).div = s.div ∧
    (lampsAbandoned s).probes = s.probes ∧ (lampsAbandoned s).link = s.link ∧ (lampsAbandoned s).peers = s.peers ∧
    (lampsAbandoned s).stage = s.stage ∧ (lampsAbandoned s).head = s.head ∧ (lampsAbandoned s).pumps = s.pumps ∧
    (lampsAbandoned s).gate = s.gate ∧ (lampsAbandoned s).order = s.order ∧ (lampsAbandoned s).free = s.free ∧
    (lampsAbandoned s).pending = s.pending ∧ (lampsAbandoned s).cfg = s.cfg ∧ (lampsAbandoned s).mode = s.mode := by
  unfold lampsAbandoned; (repeat' split) <;> simp <;> (repeat' split) <;> simp

@[simp] theorem setScale_frame (s : State) (n : Nat) :
    (setScale s n).loader = s.loader ∧ (setScale s n).inputs = s.inputs ∧ (setScale s n).div = s.div ∧
    (setScale s n).probes = s.probes ∧ (setScale s n).link = s.link ∧ (setScale s n).peers = s.peers ∧
    (setScale s n).stage = s.stage ∧ (setScale s n).arb = s.arb ∧ (setScale s n).pumps = s.pumps ∧
    (setScale s n).gate = s.gate ∧ (setScale s n).order = s.order ∧ (setScale s n).free = s.free ∧
    (setScale s n).pending = s.pending ∧ (setScale s n).cfg = s.cfg ∧ (setScale s n).mode = s.mode := by
  unfold setScale; (repeat' split) <;> simp

@[simp] theorem setGateState_frame (s : State) (st : GateState) :
    (setGateState s st).loader = s.loader ∧ (setGateState s st).inputs = s.inputs ∧
    (setGateState s st).div = s.div ∧ (setGateState s st).probes = s.probes ∧ (setGateState s st).peers = s.peers ∧
    (setGateState s st).stage = s.stage ∧ (setGateState s st).head = s.head ∧ (setGateState s st).pumps = s.pumps ∧
    (setGateState s st).order = s.order ∧ (setGateState s st).free = s.free ∧
    (setGateState s st).pending = s.pending ∧ (setGateState s st).cfg = s.cfg ∧ (setGateState s st).mode = s.mode := by
  unfold setGateState; (repeat' split) <;> simp <;> (repeat' split) <;> simp

@[simp] theorem setMotor_frame (s : State) (m : Motor) :
    (setMotor s m).loader = s.loader ∧ (setMotor s m).inputs = s.inputs ∧ (setMotor s m).div = s.div ∧
    (setMotor s m).probes = s.probes ∧ (setMotor s m).link = s.link ∧ (setMotor s m).peers = s.peers ∧
    (setMotor s m).stage = s.stage ∧ (setMotor s m).head = s.head ∧ (setMotor s m).arb = s.arb ∧
    (setMotor s m).pumps = s.pumps ∧ (setMotor s m).lamps = s.lamps ∧ (setMotor s m).order = s.order ∧
    (setMotor s m).free = s.free ∧ (setMotor s m).pending = s.pending ∧ (setMotor s m).cfg = s.cfg ∧
    (setMotor s m).mode = s.mode := by
  unfold setMotor; (repeat' split) <;> simp

@[simp] theorem enterWarning_frame (s : State) :
    (enterWarning s).loader = s.loader ∧ (enterWarning s).inputs = s.inputs ∧ (enterWarning s).div = s.div ∧
    (enterWarning s).probes = s.probes ∧ (enterWarning s).peers = s.peers ∧ (enterWarning s).stage = s.stage ∧
    (enterWarning s).head = s.head ∧ (enterWarning s).pumps = s.pumps ∧ (enterWarning s).order = s.order ∧
    (enterWarning s).free = s.free ∧ (enterWarning s).pending = s.pending ∧ (enterWarning s).cfg = s.cfg ∧
    (enterWarning s).mode = s.mode := by
  unfold enterWarning; (repeat' split) <;> simp

@[simp] theorem enterOpen_frame (s : State) :
    (enterOpen s).loader = s.loader ∧ (enterOpen s).inputs = s.inputs ∧ (enterOpen s).div = s.div ∧
    (enterOpen s).probes = s.probes ∧ (enterOpen s).peers = s.peers ∧ (enterOpen s).stage = s.stage ∧
    (enterOpen s).head = s.head ∧ (enterOpen s).pumps = s.pumps ∧ (enterOpen s).order = s.order ∧
    (enterOpen s).free = s.free ∧ (enterOpen s).pending = s.pending ∧ (enterOpen s).cfg = s.cfg ∧
    (enterOpen s).mode = s.mode := by
  unfold enterOpen; (repeat' split) <;> simp <;> (repeat' split) <;> simp

@[simp] theorem enterHolding_frame (s : State) :
    (enterHolding s).loader = s.loader ∧ (enterHolding s).inputs = s.inputs ∧ (enterHolding s).div = s.div ∧
    (enterHolding s).probes = s.probes ∧ (enterHolding s).peers = s.peers ∧ (enterHolding s).stage = s.stage ∧
    (enterHolding s).head = s.head ∧ (enterHolding s).pumps = s.pumps ∧ (enterHolding s).order = s.order ∧
    (enterHolding s).free = s.free ∧ (enterHolding s).pending = s.pending ∧ (enterHolding s).cfg = s.cfg ∧
    (enterHolding s).mode = s.mode := by
  unfold enterHolding; (repeat' split) <;> simp

@[simp] theorem enterLowerPending_frame (s : State) :
    (enterLowerPending s).loader = s.loader ∧ (enterLowerPending s).inputs = s.inputs ∧
    (enterLowerPending s).div = s.div ∧ (enterLowerPending s).probes = s.probes ∧
    (enterLowerPending s).peers = s.peers ∧ (enterLowerPending s).stage = s.stage ∧
    (enterLowerPending s).head = s.head ∧ (enterLowerPending s).pumps = s.pumps ∧
    (enterLowerPending s).order = s.order ∧ (enterLowerPending s).free = s.free ∧
    (enterLowerPending s).pending = s.pending ∧ (enterLowerPending s).cfg = s.cfg ∧
    (enterLowerPending s).mode = s.mode := by
  unfold enterLowerPending; (repeat' split) <;> simp

@[simp] theorem enterLowering_frame (s : State) :
    (enterLowering s).loader = s.loader ∧ (enterLowering s).inputs = s.inputs ∧ (enterLowering s).div = s.div ∧
    (enterLowering s).probes = s.probes ∧ (enterLowering s).peers = s.peers ∧ (enterLowering s).stage = s.stage ∧
    (enterLowering s).head = s.head ∧ (enterLowering s).pumps = s.pumps ∧ (enterLowering s).order = s.order ∧
    (enterLowering s).free = s.free ∧ (enterLowering s).pending = s.pending ∧ (enterLowering s).cfg = s.cfg ∧
    (enterLowering s).mode = s.mode := by
  unfold enterLowering; (repeat' split) <;> simp

@[simp] theorem enterLowerPaused_frame (s : State) :
    (enterLowerPaused s).loader = s.loader ∧ (enterLowerPaused s).inputs = s.inputs ∧
    (enterLowerPaused s).div = s.div ∧ (enterLowerPaused s).probes = s.probes ∧
    (enterLowerPaused s).peers = s.peers ∧ (enterLowerPaused s).stage = s.stage ∧
    (enterLowerPaused s).head = s.head ∧ (enterLowerPaused s).pumps = s.pumps ∧
    (enterLowerPaused s).order = s.order ∧ (enterLowerPaused s).free = s.free ∧
    (enterLowerPaused s).pending = s.pending ∧ (enterLowerPaused s).cfg = s.cfg ∧
    (enterLowerPaused s).mode = s.mode := by
  unfold enterLowerPaused; (repeat' split) <;> simp

@[simp] theorem enterClosed_frame (s : State) :
    (enterClosed s).loader = s.loader ∧ (enterClosed s).inputs = s.inputs ∧ (enterClosed s).div = s.div ∧
    (enterClosed s).probes = s.probes ∧ (enterClosed s).peers = s.peers ∧ (enterClosed s).stage = s.stage ∧
    (enterClosed s).head = s.head ∧ (enterClosed s).pumps = s.pumps ∧ (enterClosed s).order = s.order ∧
    (enterClosed s).free = s.free ∧ (enterClosed s).pending = s.pending ∧ (enterClosed s).cfg = s.cfg ∧
    (enterClosed s).mode = s.mode := by
  unfold enterClosed; (repeat' split) <;> simp

@[simp] theorem enterRaisePending_frame (s : State) :
    (enterRaisePending s).loader = s.loader ∧ (enterRaisePending s).inputs = s.inputs ∧
    (enterRaisePending s).div = s.div ∧ (enterRaisePending s).probes = s.probes ∧
    (enterRaisePending s).peers = s.peers ∧ (enterRaisePending s).stage = s.stage ∧
    (enterRaisePending s).head = s.head ∧ (enterRaisePending s).pumps = s.pumps ∧
    (enterRaisePending s).order = s.order ∧ (enterRaisePending s).free = s.free ∧
    (enterRaisePending s).pending = s.pending ∧ (enterRaisePending s).cfg = s.cfg ∧
    (enterRaisePending s).mode = s.mode := by
  unfold enterRaisePending; (repeat' split) <;> simp

@[simp] theorem enterRaising_frame (s : State) :
    (enterRaising s).loader = s.loader ∧ (enterRaising s).inputs = s.inputs ∧ (enterRaising s).div = s.div ∧
    (enterRaising s).probes = s.probes ∧ (enterRaising s).peers = s.peers ∧ (enterRaising s).stage = s.stage ∧
    (enterRaising s).head = s.head ∧ (enterRaising s).pumps = s.pumps ∧ (enterRaising s).order = s.order ∧
    (enterRaising s).free = s.free ∧ (enterRaising s).pending = s.pending ∧ (enterRaising s).cfg = s.cfg ∧
    (enterRaising s).mode = s.mode := by
  unfold enterRaising; (repeat' split) <;> simp

@[simp] theorem enterGateFault_frame (s : State) (c : GateCause) :
    (enterGateFault s c).loader = s.loader ∧ (enterGateFault s c).inputs = s.inputs ∧
    (enterGateFault s c).div = s.div ∧ (enterGateFault s c).probes = s.probes ∧
    (enterGateFault s c).peers = s.peers ∧ (enterGateFault s c).stage = s.stage ∧
    (enterGateFault s c).head = s.head ∧ (enterGateFault s c).pumps = s.pumps ∧
    (enterGateFault s c).order = s.order ∧ (enterGateFault s c).free = s.free ∧
    (enterGateFault s c).pending = s.pending ∧ (enterGateFault s c).cfg = s.cfg ∧
    (enterGateFault s c).mode = s.mode := by
  unfold enterGateFault; (repeat' split) <;> simp

@[simp] theorem openOrRaise_frame (s : State) :
    (openOrRaise s).loader = s.loader ∧ (openOrRaise s).inputs = s.inputs ∧ (openOrRaise s).div = s.div ∧
    (openOrRaise s).probes = s.probes ∧ (openOrRaise s).peers = s.peers ∧ (openOrRaise s).stage = s.stage ∧
    (openOrRaise s).head = s.head ∧ (openOrRaise s).pumps = s.pumps ∧ (openOrRaise s).order = s.order ∧
    (openOrRaise s).free = s.free ∧ (openOrRaise s).pending = s.pending ∧ (openOrRaise s).cfg = s.cfg ∧
    (openOrRaise s).mode = s.mode := by
  unfold openOrRaise; (repeat' split) <;> simp

@[simp] theorem leaveClosingPath_frame (s : State) :
    (leaveClosingPath s).loader = s.loader ∧ (leaveClosingPath s).inputs = s.inputs ∧
    (leaveClosingPath s).div = s.div ∧ (leaveClosingPath s).probes = s.probes ∧
    (leaveClosingPath s).peers = s.peers ∧ (leaveClosingPath s).stage = s.stage ∧
    (leaveClosingPath s).head = s.head ∧ (leaveClosingPath s).pumps = s.pumps ∧
    (leaveClosingPath s).order = s.order ∧ (leaveClosingPath s).free = s.free ∧
    (leaveClosingPath s).pending = s.pending ∧ (leaveClosingPath s).cfg = s.cfg ∧
    (leaveClosingPath s).mode = s.mode := by
  unfold leaveClosingPath; (repeat' split) <;> simp

@[simp] theorem judgeClosing_frame (s : State) :
    (judgeClosing s).loader = s.loader ∧ (judgeClosing s).inputs = s.inputs ∧ (judgeClosing s).div = s.div ∧
    (judgeClosing s).probes = s.probes ∧ (judgeClosing s).peers = s.peers ∧ (judgeClosing s).stage = s.stage ∧
    (judgeClosing s).head = s.head ∧ (judgeClosing s).pumps = s.pumps ∧ (judgeClosing s).order = s.order ∧
    (judgeClosing s).free = s.free ∧ (judgeClosing s).pending = s.pending ∧ (judgeClosing s).cfg = s.cfg ∧
    (judgeClosing s).mode = s.mode := by
  unfold judgeClosing; (repeat' split) <;> simp

@[simp] theorem reverseToWarning_frame (s : State) :
    (reverseToWarning s).loader = s.loader ∧ (reverseToWarning s).inputs = s.inputs ∧
    (reverseToWarning s).div = s.div ∧ (reverseToWarning s).probes = s.probes ∧
    (reverseToWarning s).peers = s.peers ∧ (reverseToWarning s).stage = s.stage ∧
    (reverseToWarning s).head = s.head ∧ (reverseToWarning s).pumps = s.pumps ∧
    (reverseToWarning s).order = s.order ∧ (reverseToWarning s).free = s.free ∧
    (reverseToWarning s).pending = s.pending ∧ (reverseToWarning s).cfg = s.cfg ∧
    (reverseToWarning s).mode = s.mode := by
  unfold reverseToWarning; (repeat' split) <;> simp <;> (repeat' split) <;> simp

@[simp] theorem takeTracked_frame (s : State) :
    (takeTracked s).loader = s.loader ∧ (takeTracked s).inputs = s.inputs ∧ (takeTracked s).div = s.div ∧
    (takeTracked s).probes = s.probes ∧ (takeTracked s).peers = s.peers ∧ (takeTracked s).stage = s.stage ∧
    (takeTracked s).head = s.head ∧ (takeTracked s).pumps = s.pumps ∧ (takeTracked s).order = s.order ∧
    (takeTracked s).free = s.free ∧ (takeTracked s).pending = s.pending ∧ (takeTracked s).cfg = s.cfg ∧
    (takeTracked s).mode = s.mode := by
  unfold takeTracked; (repeat' split) <;> simp

@[simp] theorem trackArm_frame (s : State) :
    (trackArm s).loader = s.loader ∧ (trackArm s).inputs = s.inputs ∧ (trackArm s).div = s.div ∧
    (trackArm s).probes = s.probes ∧ (trackArm s).peers = s.peers ∧ (trackArm s).stage = s.stage ∧
    (trackArm s).head = s.head ∧ (trackArm s).pumps = s.pumps ∧ (trackArm s).order = s.order ∧
    (trackArm s).free = s.free ∧ (trackArm s).pending = s.pending ∧ (trackArm s).cfg = s.cfg ∧
    (trackArm s).mode = s.mode := by
  unfold trackArm; (repeat' split) <;> simp

@[simp] theorem localMotorOff_frame (s : State) :
    (localMotorOff s).loader = s.loader ∧ (localMotorOff s).inputs = s.inputs ∧ (localMotorOff s).div = s.div ∧
    (localMotorOff s).probes = s.probes ∧ (localMotorOff s).peers = s.peers ∧ (localMotorOff s).stage = s.stage ∧
    (localMotorOff s).head = s.head ∧ (localMotorOff s).pumps = s.pumps ∧ (localMotorOff s).order = s.order ∧
    (localMotorOff s).free = s.free ∧ (localMotorOff s).pending = s.pending ∧ (localMotorOff s).cfg = s.cfg ∧
    (localMotorOff s).mode = s.mode := by
  unfold localMotorOff; (repeat' split) <;> simp

@[simp] theorem localMotorOn_frame (s : State) (m : Motor) :
    (localMotorOn s m).loader = s.loader ∧ (localMotorOn s m).inputs = s.inputs ∧ (localMotorOn s m).div = s.div ∧
    (localMotorOn s m).probes = s.probes ∧ (localMotorOn s m).peers = s.peers ∧
    (localMotorOn s m).stage = s.stage ∧ (localMotorOn s m).head = s.head ∧ (localMotorOn s m).pumps = s.pumps ∧
    (localMotorOn s m).order = s.order ∧ (localMotorOn s m).free = s.free ∧
    (localMotorOn s m).pending = s.pending ∧ (localMotorOn s m).cfg = s.cfg ∧ (localMotorOn s m).mode = s.mode := by
  unfold localMotorOn; (repeat' split) <;> simp

@[simp] theorem deriveGate_frame (s : State) :
    (deriveGate s).loader = s.loader ∧ (deriveGate s).inputs = s.inputs ∧ (deriveGate s).div = s.div ∧
    (deriveGate s).probes = s.probes ∧ (deriveGate s).peers = s.peers ∧ (deriveGate s).stage = s.stage ∧
    (deriveGate s).head = s.head ∧ (deriveGate s).pumps = s.pumps ∧ (deriveGate s).order = s.order ∧
    (deriveGate s).free = s.free ∧ (deriveGate s).pending = s.pending ∧ (deriveGate s).cfg = s.cfg ∧
    (deriveGate s).mode = s.mode := by
  unfold deriveGate; (repeat' split) <;> simp

@[simp] theorem deriveCleared_frame (s : State) :
    (deriveCleared s).loader = s.loader ∧ (deriveCleared s).inputs = s.inputs ∧ (deriveCleared s).div = s.div ∧
    (deriveCleared s).probes = s.probes ∧ (deriveCleared s).peers = s.peers ∧ (deriveCleared s).stage = s.stage ∧
    (deriveCleared s).head = s.head ∧ (deriveCleared s).pumps = s.pumps ∧ (deriveCleared s).order = s.order ∧
    (deriveCleared s).free = s.free ∧ (deriveCleared s).pending = s.pending ∧ (deriveCleared s).cfg = s.cfg ∧
    (deriveCleared s).mode = s.mode := by
  unfold deriveCleared; (repeat' split) <;> simp

@[simp] theorem gateLoopsOccupied_frame (s : State) :
    (gateLoopsOccupied s).loader = s.loader ∧ (gateLoopsOccupied s).inputs = s.inputs ∧
    (gateLoopsOccupied s).div = s.div ∧ (gateLoopsOccupied s).probes = s.probes ∧
    (gateLoopsOccupied s).peers = s.peers ∧ (gateLoopsOccupied s).stage = s.stage ∧
    (gateLoopsOccupied s).head = s.head ∧ (gateLoopsOccupied s).pumps = s.pumps ∧
    (gateLoopsOccupied s).order = s.order ∧ (gateLoopsOccupied s).free = s.free ∧
    (gateLoopsOccupied s).pending = s.pending ∧ (gateLoopsOccupied s).cfg = s.cfg ∧
    (gateLoopsOccupied s).mode = s.mode := by
  unfold gateLoopsOccupied; (repeat' split) <;> simp

@[simp] theorem gateStageChange_frame (s : State) (old : Stage) :
    (gateStageChange s old).loader = s.loader ∧ (gateStageChange s old).inputs = s.inputs ∧
    (gateStageChange s old).div = s.div ∧ (gateStageChange s old).probes = s.probes ∧
    (gateStageChange s old).peers = s.peers ∧ (gateStageChange s old).stage = s.stage ∧
    (gateStageChange s old).head = s.head ∧ (gateStageChange s old).pumps = s.pumps ∧
    (gateStageChange s old).order = s.order ∧ (gateStageChange s old).free = s.free ∧
    (gateStageChange s old).pending = s.pending ∧ (gateStageChange s old).cfg = s.cfg ∧
    (gateStageChange s old).mode = s.mode := by
  unfold gateStageChange; (repeat' split) <;> simp

@[simp] theorem gateSupplyLost_frame (s : State) :
    (gateSupplyLost s).loader = s.loader ∧ (gateSupplyLost s).inputs = s.inputs ∧ (gateSupplyLost s).div = s.div ∧
    (gateSupplyLost s).probes = s.probes ∧ (gateSupplyLost s).peers = s.peers ∧
    (gateSupplyLost s).stage = s.stage ∧ (gateSupplyLost s).head = s.head ∧ (gateSupplyLost s).pumps = s.pumps ∧
    (gateSupplyLost s).order = s.order ∧ (gateSupplyLost s).free = s.free ∧
    (gateSupplyLost s).pending = s.pending ∧ (gateSupplyLost s).cfg = s.cfg ∧ (gateSupplyLost s).mode = s.mode := by
  unfold gateSupplyLost; (repeat' split) <;> simp

@[simp] theorem gateSupplyBack_frame (s : State) :
    (gateSupplyBack s).loader = s.loader ∧ (gateSupplyBack s).inputs = s.inputs ∧ (gateSupplyBack s).div = s.div ∧
    (gateSupplyBack s).probes = s.probes ∧ (gateSupplyBack s).peers = s.peers ∧
    (gateSupplyBack s).stage = s.stage ∧ (gateSupplyBack s).head = s.head ∧ (gateSupplyBack s).pumps = s.pumps ∧
    (gateSupplyBack s).order = s.order ∧ (gateSupplyBack s).free = s.free ∧
    (gateSupplyBack s).pending = s.pending ∧ (gateSupplyBack s).cfg = s.cfg ∧ (gateSupplyBack s).mode = s.mode := by
  unfold gateSupplyBack; (repeat' split) <;> simp

@[simp] theorem gateSurgeStart_frame (s : State) :
    (gateSurgeStart s).loader = s.loader ∧ (gateSurgeStart s).inputs = s.inputs ∧ (gateSurgeStart s).div = s.div ∧
    (gateSurgeStart s).probes = s.probes ∧ (gateSurgeStart s).peers = s.peers ∧
    (gateSurgeStart s).stage = s.stage ∧ (gateSurgeStart s).head = s.head ∧ (gateSurgeStart s).pumps = s.pumps ∧
    (gateSurgeStart s).order = s.order ∧ (gateSurgeStart s).free = s.free ∧
    (gateSurgeStart s).pending = s.pending ∧ (gateSurgeStart s).cfg = s.cfg ∧ (gateSurgeStart s).mode = s.mode := by
  unfold gateSurgeStart; (repeat' split) <;> simp

@[simp] theorem loopsChanged_frame (s : State) (b : Bool) :
    (loopsChanged b s).loader = s.loader ∧ (loopsChanged b s).inputs = s.inputs ∧ (loopsChanged b s).div = s.div ∧
    (loopsChanged b s).probes = s.probes ∧ (loopsChanged b s).peers = s.peers ∧
    (loopsChanged b s).stage = s.stage ∧ (loopsChanged b s).head = s.head ∧ (loopsChanged b s).pumps = s.pumps ∧
    (loopsChanged b s).order = s.order ∧ (loopsChanged b s).free = s.free ∧
    (loopsChanged b s).pending = s.pending ∧ (loopsChanged b s).cfg = s.cfg ∧ (loopsChanged b s).mode = s.mode := by
  unfold loopsChanged; (repeat' split) <;> simp

@[simp] theorem onPump_frame (s : State) (p : PumpId) (f : Pump → Pump) :
    (onPump s p f).loader = s.loader ∧ (onPump s p f).inputs = s.inputs ∧ (onPump s p f).div = s.div ∧
    (onPump s p f).probes = s.probes ∧ (onPump s p f).link = s.link ∧ (onPump s p f).peers = s.peers ∧
    (onPump s p f).stage = s.stage ∧ (onPump s p f).head = s.head ∧ (onPump s p f).arb = s.arb ∧
    (onPump s p f).lamps = s.lamps ∧ (onPump s p f).gate = s.gate ∧ (onPump s p f).order = s.order ∧
    (onPump s p f).free = s.free ∧ (onPump s p f).pending = s.pending ∧ (onPump s p f).cfg = s.cfg ∧
    (onPump s p f).mode = s.mode := by
  unfold onPump; (repeat' split) <;> simp

@[simp] theorem settleLeft_frame (s : State) (p : PumpId) :
    (settleLeft s p).loader = s.loader ∧ (settleLeft s p).inputs = s.inputs ∧ (settleLeft s p).div = s.div ∧
    (settleLeft s p).probes = s.probes ∧ (settleLeft s p).link = s.link ∧ (settleLeft s p).peers = s.peers ∧
    (settleLeft s p).stage = s.stage ∧ (settleLeft s p).head = s.head ∧ (settleLeft s p).arb = s.arb ∧
    (settleLeft s p).lamps = s.lamps ∧ (settleLeft s p).gate = s.gate ∧ (settleLeft s p).order = s.order ∧
    (settleLeft s p).free = s.free ∧ (settleLeft s p).pending = s.pending ∧ (settleLeft s p).cfg = s.cfg ∧
    (settleLeft s p).mode = s.mode := by
  unfold settleLeft; simp

@[simp] theorem setPumpState_frame (s : State) (p : PumpId) (st : PumpState) :
    (setPumpState s p st).loader = s.loader ∧ (setPumpState s p st).inputs = s.inputs ∧
    (setPumpState s p st).div = s.div ∧ (setPumpState s p st).probes = s.probes ∧
    (setPumpState s p st).peers = s.peers ∧ (setPumpState s p st).stage = s.stage ∧
    (setPumpState s p st).head = s.head ∧ (setPumpState s p st).arb = s.arb ∧
    (setPumpState s p st).lamps = s.lamps ∧ (setPumpState s p st).gate = s.gate ∧
    (setPumpState s p st).order = s.order ∧ (setPumpState s p st).free = s.free ∧
    (setPumpState s p st).pending = s.pending ∧ (setPumpState s p st).cfg = s.cfg ∧
    (setPumpState s p st).mode = s.mode := by
  unfold setPumpState; (repeat' split) <;> simp <;> (repeat' split) <;> simp

@[simp] theorem passLead_frame (s : State) :
    (passLead s).loader = s.loader ∧ (passLead s).inputs = s.inputs ∧ (passLead s).div = s.div ∧
    (passLead s).probes = s.probes ∧ (passLead s).link = s.link ∧ (passLead s).peers = s.peers ∧
    (passLead s).stage = s.stage ∧ (passLead s).head = s.head ∧ (passLead s).arb = s.arb ∧
    (passLead s).lamps = s.lamps ∧ (passLead s).gate = s.gate ∧ (passLead s).order = s.order ∧
    (passLead s).free = s.free ∧ (passLead s).pending = s.pending ∧ (passLead s).cfg = s.cfg ∧
    (passLead s).mode = s.mode := by
  unfold passLead; (repeat' split) <;> simp

@[simp] theorem offBasic_frame (s : State) (p : PumpId) :
    (offBasic s p).loader = s.loader ∧ (offBasic s p).inputs = s.inputs ∧ (offBasic s p).div = s.div ∧
    (offBasic s p).probes = s.probes ∧ (offBasic s p).peers = s.peers ∧ (offBasic s p).stage = s.stage ∧
    (offBasic s p).head = s.head ∧ (offBasic s p).lamps = s.lamps ∧ (offBasic s p).gate = s.gate ∧
    (offBasic s p).order = s.order ∧ (offBasic s p).free = s.free ∧ (offBasic s p).pending = s.pending ∧
    (offBasic s p).cfg = s.cfg ∧ (offBasic s p).mode = s.mode := by
  unfold offBasic; (repeat' split) <;> simp

@[simp] theorem faultBasic_frame (s : State) (p : PumpId) (c : PumpCause) :
    (faultBasic s p c).loader = s.loader ∧ (faultBasic s p c).inputs = s.inputs ∧ (faultBasic s p c).div = s.div ∧
    (faultBasic s p c).probes = s.probes ∧ (faultBasic s p c).peers = s.peers ∧
    (faultBasic s p c).stage = s.stage ∧ (faultBasic s p c).head = s.head ∧ (faultBasic s p c).lamps = s.lamps ∧
    (faultBasic s p c).gate = s.gate ∧ (faultBasic s p c).order = s.order ∧ (faultBasic s p c).free = s.free ∧
    (faultBasic s p c).pending = s.pending ∧ (faultBasic s p c).cfg = s.cfg ∧ (faultBasic s p c).mode = s.mode := by
  unfold faultBasic; (repeat' split) <;> simp

@[simp] theorem passLeadFrom_frame (s : State) (p : PumpId) :
    (passLeadFrom s p).loader = s.loader ∧ (passLeadFrom s p).inputs = s.inputs ∧ (passLeadFrom s p).div = s.div ∧
    (passLeadFrom s p).probes = s.probes ∧ (passLeadFrom s p).link = s.link ∧ (passLeadFrom s p).peers = s.peers ∧
    (passLeadFrom s p).stage = s.stage ∧ (passLeadFrom s p).head = s.head ∧ (passLeadFrom s p).arb = s.arb ∧
    (passLeadFrom s p).lamps = s.lamps ∧ (passLeadFrom s p).gate = s.gate ∧ (passLeadFrom s p).order = s.order ∧
    (passLeadFrom s p).free = s.free ∧ (passLeadFrom s p).pending = s.pending ∧ (passLeadFrom s p).cfg = s.cfg ∧
    (passLeadFrom s p).mode = s.mode := by
  unfold passLeadFrom; (repeat' split) <;> simp

@[simp] theorem waiveRest_frame (s : State) (p : PumpId) :
    (waiveRest s p).loader = s.loader ∧ (waiveRest s p).inputs = s.inputs ∧ (waiveRest s p).div = s.div ∧
    (waiveRest s p).probes = s.probes ∧ (waiveRest s p).peers = s.peers ∧ (waiveRest s p).stage = s.stage ∧
    (waiveRest s p).head = s.head ∧ (waiveRest s p).lamps = s.lamps ∧ (waiveRest s p).gate = s.gate ∧
    (waiveRest s p).order = s.order ∧ (waiveRest s p).free = s.free ∧ (waiveRest s p).pending = s.pending ∧
    (waiveRest s p).cfg = s.cfg ∧ (waiveRest s p).mode = s.mode := by
  unfold waiveRest; (repeat' split) <;> simp <;> (repeat' split) <;> simp

@[simp] theorem enterFault_frame (s : State) (p : PumpId) (c : PumpCause) :
    (enterFault s p c).loader = s.loader ∧ (enterFault s p c).inputs = s.inputs ∧ (enterFault s p c).div = s.div ∧
    (enterFault s p c).probes = s.probes ∧ (enterFault s p c).peers = s.peers ∧
    (enterFault s p c).stage = s.stage ∧ (enterFault s p c).head = s.head ∧ (enterFault s p c).lamps = s.lamps ∧
    (enterFault s p c).gate = s.gate ∧ (enterFault s p c).order = s.order ∧ (enterFault s p c).free = s.free ∧
    (enterFault s p c).pending = s.pending ∧ (enterFault s p c).cfg = s.cfg ∧ (enterFault s p c).mode = s.mode := by
  unfold enterFault; (repeat' split) <;> simp

@[simp] theorem enterOff_frame (s : State) (p : PumpId) :
    (enterOff s p).loader = s.loader ∧ (enterOff s p).inputs = s.inputs ∧ (enterOff s p).div = s.div ∧
    (enterOff s p).probes = s.probes ∧ (enterOff s p).peers = s.peers ∧ (enterOff s p).stage = s.stage ∧
    (enterOff s p).head = s.head ∧ (enterOff s p).lamps = s.lamps ∧ (enterOff s p).gate = s.gate ∧
    (enterOff s p).order = s.order ∧ (enterOff s p).free = s.free ∧ (enterOff s p).pending = s.pending ∧
    (enterOff s p).cfg = s.cfg ∧ (enterOff s p).mode = s.mode := by
  unfold enterOff; (repeat' split) <;> simp <;> (repeat' split) <;> simp

@[simp] theorem judgeLatches_frame (s : State) :
    (judgeLatches s).loader = s.loader ∧ (judgeLatches s).inputs = s.inputs ∧ (judgeLatches s).div = s.div ∧
    (judgeLatches s).probes = s.probes ∧ (judgeLatches s).link = s.link ∧ (judgeLatches s).peers = s.peers ∧
    (judgeLatches s).stage = s.stage ∧ (judgeLatches s).head = s.head ∧ (judgeLatches s).arb = s.arb ∧
    (judgeLatches s).lamps = s.lamps ∧ (judgeLatches s).gate = s.gate ∧ (judgeLatches s).order = s.order ∧
    (judgeLatches s).free = s.free ∧ (judgeLatches s).pending = s.pending ∧ (judgeLatches s).cfg = s.cfg ∧
    (judgeLatches s).mode = s.mode := by
  unfold judgeLatches; (repeat' split) <;> simp

@[simp] theorem pumpPosts_frame (s : State) (p : PumpId) (q : Reason) (r : PumpReason) :
    (pumpPosts s p q r).loader = s.loader ∧ (pumpPosts s p q r).inputs = s.inputs ∧
    (pumpPosts s p q r).div = s.div ∧ (pumpPosts s p q r).probes = s.probes ∧ (pumpPosts s p q r).peers = s.peers ∧
    (pumpPosts s p q r).stage = s.stage ∧ (pumpPosts s p q r).head = s.head ∧ (pumpPosts s p q r).lamps = s.lamps ∧
    (pumpPosts s p q r).gate = s.gate ∧ (pumpPosts s p q r).order = s.order ∧ (pumpPosts s p q r).free = s.free ∧
    (pumpPosts s p q r).pending = s.pending ∧ (pumpPosts s p q r).cfg = s.cfg ∧ (pumpPosts s p q r).mode = s.mode := by
  unfold pumpPosts; (repeat' split) <;> simp

@[simp] theorem judgeRunLimit_frame (s : State) (p : PumpId) :
    (judgeRunLimit s p).loader = s.loader ∧ (judgeRunLimit s p).inputs = s.inputs ∧
    (judgeRunLimit s p).div = s.div ∧ (judgeRunLimit s p).probes = s.probes ∧ (judgeRunLimit s p).link = s.link ∧
    (judgeRunLimit s p).peers = s.peers ∧ (judgeRunLimit s p).stage = s.stage ∧ (judgeRunLimit s p).head = s.head ∧
    (judgeRunLimit s p).arb = s.arb ∧ (judgeRunLimit s p).lamps = s.lamps ∧ (judgeRunLimit s p).gate = s.gate ∧
    (judgeRunLimit s p).order = s.order ∧ (judgeRunLimit s p).free = s.free ∧
    (judgeRunLimit s p).pending = s.pending ∧ (judgeRunLimit s p).cfg = s.cfg ∧ (judgeRunLimit s p).mode = s.mode := by
  unfold judgeRunLimit; (repeat' split) <;> simp <;> (repeat' split) <;> simp

@[simp] theorem takeDemand_frame (s : State) (p : PumpId) :
    (takeDemand s p).loader = s.loader ∧ (takeDemand s p).inputs = s.inputs ∧ (takeDemand s p).div = s.div ∧
    (takeDemand s p).probes = s.probes ∧ (takeDemand s p).link = s.link ∧ (takeDemand s p).peers = s.peers ∧
    (takeDemand s p).stage = s.stage ∧ (takeDemand s p).head = s.head ∧ (takeDemand s p).arb = s.arb ∧
    (takeDemand s p).lamps = s.lamps ∧ (takeDemand s p).gate = s.gate ∧ (takeDemand s p).order = s.order ∧
    (takeDemand s p).free = s.free ∧ (takeDemand s p).pending = s.pending ∧ (takeDemand s p).cfg = s.cfg ∧
    (takeDemand s p).mode = s.mode := by
  unfold takeDemand; (repeat' split) <;> simp

@[simp] theorem passLeadAtStop_frame (s : State) (p : PumpId) :
    (passLeadAtStop s p).loader = s.loader ∧ (passLeadAtStop s p).inputs = s.inputs ∧
    (passLeadAtStop s p).div = s.div ∧ (passLeadAtStop s p).probes = s.probes ∧
    (passLeadAtStop s p).link = s.link ∧ (passLeadAtStop s p).peers = s.peers ∧
    (passLeadAtStop s p).stage = s.stage ∧ (passLeadAtStop s p).head = s.head ∧ (passLeadAtStop s p).arb = s.arb ∧
    (passLeadAtStop s p).lamps = s.lamps ∧ (passLeadAtStop s p).gate = s.gate ∧
    (passLeadAtStop s p).order = s.order ∧ (passLeadAtStop s p).free = s.free ∧
    (passLeadAtStop s p).pending = s.pending ∧ (passLeadAtStop s p).cfg = s.cfg ∧
    (passLeadAtStop s p).mode = s.mode := by
  unfold passLeadAtStop; (repeat' split) <;> simp

@[simp] theorem demandStop_frame (s : State) (p : PumpId) :
    (demandStop s p).loader = s.loader ∧ (demandStop s p).inputs = s.inputs ∧ (demandStop s p).div = s.div ∧
    (demandStop s p).probes = s.probes ∧ (demandStop s p).peers = s.peers ∧ (demandStop s p).stage = s.stage ∧
    (demandStop s p).head = s.head ∧ (demandStop s p).lamps = s.lamps ∧ (demandStop s p).gate = s.gate ∧
    (demandStop s p).order = s.order ∧ (demandStop s p).free = s.free ∧ (demandStop s p).pending = s.pending ∧
    (demandStop s p).cfg = s.cfg ∧ (demandStop s p).mode = s.mode := by
  unfold demandStop; (repeat' split) <;> simp <;> (repeat' split) <;> simp

@[simp] theorem stopUncalled_frame (s : State) (p : PumpId) :
    (stopUncalled s p).loader = s.loader ∧ (stopUncalled s p).inputs = s.inputs ∧
    (stopUncalled s p).div = s.div ∧ (stopUncalled s p).probes = s.probes ∧
    (stopUncalled s p).peers = s.peers ∧ (stopUncalled s p).stage = s.stage ∧
    (stopUncalled s p).head = s.head ∧ (stopUncalled s p).lamps = s.lamps ∧
    (stopUncalled s p).gate = s.gate ∧ (stopUncalled s p).order = s.order ∧
    (stopUncalled s p).free = s.free ∧ (stopUncalled s p).pending = s.pending ∧
    (stopUncalled s p).cfg = s.cfg ∧ (stopUncalled s p).mode = s.mode := by
  unfold stopUncalled; (repeat' split) <;> simp

@[simp] theorem dropToOff_frame (s : State) (p : PumpId) :
    (dropToOff s p).loader = s.loader ∧ (dropToOff s p).inputs = s.inputs ∧ (dropToOff s p).div = s.div ∧
    (dropToOff s p).probes = s.probes ∧ (dropToOff s p).peers = s.peers ∧ (dropToOff s p).stage = s.stage ∧
    (dropToOff s p).head = s.head ∧ (dropToOff s p).lamps = s.lamps ∧ (dropToOff s p).gate = s.gate ∧
    (dropToOff s p).order = s.order ∧ (dropToOff s p).free = s.free ∧ (dropToOff s p).pending = s.pending ∧
    (dropToOff s p).cfg = s.cfg ∧ (dropToOff s p).mode = s.mode := by
  unfold dropToOff; (repeat' split) <;> simp

@[simp] theorem actClaiming_frame (s : State) (p : PumpId) :
    (actClaiming s p).loader = s.loader ∧ (actClaiming s p).inputs = s.inputs ∧ (actClaiming s p).div = s.div ∧
    (actClaiming s p).probes = s.probes ∧ (actClaiming s p).peers = s.peers ∧ (actClaiming s p).stage = s.stage ∧
    (actClaiming s p).head = s.head ∧ (actClaiming s p).lamps = s.lamps ∧ (actClaiming s p).gate = s.gate ∧
    (actClaiming s p).order = s.order ∧ (actClaiming s p).free = s.free ∧ (actClaiming s p).pending = s.pending ∧
    (actClaiming s p).cfg = s.cfg ∧ (actClaiming s p).mode = s.mode := by
  unfold actClaiming; (repeat' split) <;> simp <;> (repeat' split) <;> simp

@[simp] theorem actPump_frame (s : State) (p : PumpId) :
    (actPump s p).loader = s.loader ∧ (actPump s p).inputs = s.inputs ∧ (actPump s p).div = s.div ∧
    (actPump s p).probes = s.probes ∧ (actPump s p).peers = s.peers ∧ (actPump s p).stage = s.stage ∧
    (actPump s p).head = s.head ∧ (actPump s p).lamps = s.lamps ∧ (actPump s p).gate = s.gate ∧
    (actPump s p).order = s.order ∧ (actPump s p).free = s.free ∧ (actPump s p).pending = s.pending ∧
    (actPump s p).cfg = s.cfg ∧ (actPump s p).mode = s.mode := by
  unfold actPump; (repeat' split) <;> simp <;> (repeat' split) <;> simp

@[simp] theorem actCalls_frame (s : State) :
    (actCalls s).loader = s.loader ∧ (actCalls s).inputs = s.inputs ∧ (actCalls s).div = s.div ∧
    (actCalls s).probes = s.probes ∧ (actCalls s).peers = s.peers ∧ (actCalls s).stage = s.stage ∧
    (actCalls s).head = s.head ∧ (actCalls s).lamps = s.lamps ∧ (actCalls s).gate = s.gate ∧
    (actCalls s).order = s.order ∧ (actCalls s).free = s.free ∧ (actCalls s).pending = s.pending ∧
    (actCalls s).cfg = s.cfg ∧ (actCalls s).mode = s.mode := by
  unfold actCalls; (repeat' split) <;> simp

@[simp] theorem completeHandover_frame (s : State) (p : PumpId) :
    (completeHandover s p).loader = s.loader ∧ (completeHandover s p).inputs = s.inputs ∧
    (completeHandover s p).div = s.div ∧ (completeHandover s p).probes = s.probes ∧
    (completeHandover s p).peers = s.peers ∧ (completeHandover s p).stage = s.stage ∧
    (completeHandover s p).head = s.head ∧ (completeHandover s p).lamps = s.lamps ∧
    (completeHandover s p).gate = s.gate ∧ (completeHandover s p).order = s.order ∧
    (completeHandover s p).free = s.free ∧ (completeHandover s p).pending = s.pending ∧
    (completeHandover s p).cfg = s.cfg ∧ (completeHandover s p).mode = s.mode := by
  unfold completeHandover; (repeat' split) <;> simp <;> (repeat' split) <;> simp

@[simp] theorem askRelief_frame (s : State) (p : PumpId) :
    (askRelief s p).loader = s.loader ∧ (askRelief s p).inputs = s.inputs ∧ (askRelief s p).div = s.div ∧
    (askRelief s p).probes = s.probes ∧ (askRelief s p).peers = s.peers ∧ (askRelief s p).stage = s.stage ∧
    (askRelief s p).head = s.head ∧ (askRelief s p).lamps = s.lamps ∧ (askRelief s p).gate = s.gate ∧
    (askRelief s p).order = s.order ∧ (askRelief s p).free = s.free ∧ (askRelief s p).pending = s.pending ∧
    (askRelief s p).cfg = s.cfg ∧ (askRelief s p).mode = s.mode := by
  unfold askRelief; (repeat' split) <;> simp <;> (repeat' split) <;> simp

@[simp] theorem postExercise_frame (s : State) (p : PumpId) :
    (postExercise s p).loader = s.loader ∧ (postExercise s p).inputs = s.inputs ∧ (postExercise s p).div = s.div ∧
    (postExercise s p).probes = s.probes ∧ (postExercise s p).peers = s.peers ∧
    (postExercise s p).stage = s.stage ∧ (postExercise s p).head = s.head ∧ (postExercise s p).lamps = s.lamps ∧
    (postExercise s p).gate = s.gate ∧ (postExercise s p).order = s.order ∧ (postExercise s p).free = s.free ∧
    (postExercise s p).pending = s.pending ∧ (postExercise s p).cfg = s.cfg ∧ (postExercise s p).mode = s.mode := by
  unfold postExercise; (repeat' split) <;> simp

@[simp] theorem settlePumps_frame (s : State) :
    (settlePumps s).loader = s.loader ∧ (settlePumps s).inputs = s.inputs ∧ (settlePumps s).div = s.div ∧
    (settlePumps s).probes = s.probes ∧ (settlePumps s).peers = s.peers ∧ (settlePumps s).stage = s.stage ∧
    (settlePumps s).head = s.head ∧ (settlePumps s).lamps = s.lamps ∧ (settlePumps s).gate = s.gate ∧
    (settlePumps s).order = s.order ∧ (settlePumps s).free = s.free ∧ (settlePumps s).pending = s.pending ∧
    (settlePumps s).cfg = s.cfg ∧ (settlePumps s).mode = s.mode := by
  unfold settlePumps; (repeat' split) <;> simp

@[simp] theorem pumpSurgeStart_frame (s : State) (p : PumpId) :
    (pumpSurgeStart s p).loader = s.loader ∧ (pumpSurgeStart s p).inputs = s.inputs ∧
    (pumpSurgeStart s p).div = s.div ∧ (pumpSurgeStart s p).probes = s.probes ∧
    (pumpSurgeStart s p).peers = s.peers ∧ (pumpSurgeStart s p).stage = s.stage ∧
    (pumpSurgeStart s p).head = s.head ∧ (pumpSurgeStart s p).lamps = s.lamps ∧
    (pumpSurgeStart s p).gate = s.gate ∧ (pumpSurgeStart s p).order = s.order ∧
    (pumpSurgeStart s p).free = s.free ∧ (pumpSurgeStart s p).pending = s.pending ∧
    (pumpSurgeStart s p).cfg = s.cfg ∧ (pumpSurgeStart s p).mode = s.mode := by
  unfold pumpSurgeStart; (repeat' split) <;> simp

@[simp] theorem runningBasic_frame (s : State) (p : PumpId) :
    (runningBasic s p).loader = s.loader ∧ (runningBasic s p).inputs = s.inputs ∧ (runningBasic s p).div = s.div ∧
    (runningBasic s p).probes = s.probes ∧ (runningBasic s p).peers = s.peers ∧
    (runningBasic s p).stage = s.stage ∧ (runningBasic s p).head = s.head ∧ (runningBasic s p).lamps = s.lamps ∧
    (runningBasic s p).gate = s.gate ∧ (runningBasic s p).order = s.order ∧ (runningBasic s p).free = s.free ∧
    (runningBasic s p).pending = s.pending ∧ (runningBasic s p).cfg = s.cfg ∧ (runningBasic s p).mode = s.mode := by
  unfold runningBasic; (repeat' split) <;> simp

@[simp] theorem handoverAtRunning_frame (s : State) (p : PumpId) :
    (handoverAtRunning s p).loader = s.loader ∧ (handoverAtRunning s p).inputs = s.inputs ∧
    (handoverAtRunning s p).div = s.div ∧ (handoverAtRunning s p).probes = s.probes ∧
    (handoverAtRunning s p).peers = s.peers ∧ (handoverAtRunning s p).stage = s.stage ∧
    (handoverAtRunning s p).head = s.head ∧ (handoverAtRunning s p).lamps = s.lamps ∧
    (handoverAtRunning s p).gate = s.gate ∧ (handoverAtRunning s p).order = s.order ∧
    (handoverAtRunning s p).free = s.free ∧ (handoverAtRunning s p).pending = s.pending ∧
    (handoverAtRunning s p).cfg = s.cfg ∧ (handoverAtRunning s p).mode = s.mode := by
  unfold handoverAtRunning; (repeat' split) <;> simp <;> (repeat' split) <;> simp

@[simp] theorem endPumpSurge_frame (s : State) (p : PumpId) :
    (endPumpSurge s p).loader = s.loader ∧ (endPumpSurge s p).inputs = s.inputs ∧ (endPumpSurge s p).div = s.div ∧
    (endPumpSurge s p).probes = s.probes ∧ (endPumpSurge s p).peers = s.peers ∧
    (endPumpSurge s p).stage = s.stage ∧ (endPumpSurge s p).head = s.head ∧ (endPumpSurge s p).lamps = s.lamps ∧
    (endPumpSurge s p).gate = s.gate ∧ (endPumpSurge s p).order = s.order ∧ (endPumpSurge s p).free = s.free ∧
    (endPumpSurge s p).pending = s.pending ∧ (endPumpSurge s p).cfg = s.cfg ∧ (endPumpSurge s p).mode = s.mode := by
  unfold endPumpSurge; (repeat' split) <;> simp

@[simp] theorem pumpSurgeEnd_frame (s : State) (p : PumpId) :
    (pumpSurgeEnd s p).loader = s.loader ∧ (pumpSurgeEnd s p).inputs = s.inputs ∧ (pumpSurgeEnd s p).div = s.div ∧
    (pumpSurgeEnd s p).probes = s.probes ∧ (pumpSurgeEnd s p).peers = s.peers ∧
    (pumpSurgeEnd s p).stage = s.stage ∧ (pumpSurgeEnd s p).head = s.head ∧ (pumpSurgeEnd s p).lamps = s.lamps ∧
    (pumpSurgeEnd s p).gate = s.gate ∧ (pumpSurgeEnd s p).order = s.order ∧ (pumpSurgeEnd s p).free = s.free ∧
    (pumpSurgeEnd s p).pending = s.pending ∧ (pumpSurgeEnd s p).cfg = s.cfg ∧ (pumpSurgeEnd s p).mode = s.mode := by
  unfold pumpSurgeEnd; (repeat' split) <;> simp <;> (repeat' split) <;> simp

@[simp] theorem pumpClaiming_frame (s : State) (p : PumpId) :
    (pumpClaiming s p).loader = s.loader ∧ (pumpClaiming s p).inputs = s.inputs ∧ (pumpClaiming s p).div = s.div ∧
    (pumpClaiming s p).probes = s.probes ∧ (pumpClaiming s p).peers = s.peers ∧
    (pumpClaiming s p).stage = s.stage ∧ (pumpClaiming s p).head = s.head ∧ (pumpClaiming s p).lamps = s.lamps ∧
    (pumpClaiming s p).gate = s.gate ∧ (pumpClaiming s p).order = s.order ∧ (pumpClaiming s p).free = s.free ∧
    (pumpClaiming s p).pending = s.pending ∧ (pumpClaiming s p).cfg = s.cfg ∧ (pumpClaiming s p).mode = s.mode := by
  unfold pumpClaiming; (repeat' split) <;> simp

@[simp] theorem pumpBackToPending_frame (s : State) (p : PumpId) :
    (pumpBackToPending s p).loader = s.loader ∧ (pumpBackToPending s p).inputs = s.inputs ∧
    (pumpBackToPending s p).div = s.div ∧ (pumpBackToPending s p).probes = s.probes ∧
    (pumpBackToPending s p).peers = s.peers ∧ (pumpBackToPending s p).stage = s.stage ∧
    (pumpBackToPending s p).head = s.head ∧ (pumpBackToPending s p).lamps = s.lamps ∧
    (pumpBackToPending s p).gate = s.gate ∧ (pumpBackToPending s p).order = s.order ∧
    (pumpBackToPending s p).free = s.free ∧ (pumpBackToPending s p).pending = s.pending ∧
    (pumpBackToPending s p).cfg = s.cfg ∧ (pumpBackToPending s p).mode = s.mode := by
  unfold pumpBackToPending; (repeat' split) <;> simp <;> (repeat' split) <;> simp

@[simp] theorem pumpAbandoned_frame (s : State) (p : PumpId) :
    (pumpAbandoned s p).loader = s.loader ∧ (pumpAbandoned s p).inputs = s.inputs ∧
    (pumpAbandoned s p).div = s.div ∧ (pumpAbandoned s p).probes = s.probes ∧ (pumpAbandoned s p).peers = s.peers ∧
    (pumpAbandoned s p).stage = s.stage ∧ (pumpAbandoned s p).head = s.head ∧ (pumpAbandoned s p).lamps = s.lamps ∧
    (pumpAbandoned s p).gate = s.gate ∧ (pumpAbandoned s p).order = s.order ∧ (pumpAbandoned s p).free = s.free ∧
    (pumpAbandoned s p).pending = s.pending ∧ (pumpAbandoned s p).cfg = s.cfg ∧ (pumpAbandoned s p).mode = s.mode := by
  unfold pumpAbandoned; (repeat' split) <;> simp <;> (repeat' split) <;> simp

@[simp] theorem blankMeasurements_frame (s : State) :
    (blankMeasurements s).loader = s.loader ∧ (blankMeasurements s).inputs = s.inputs ∧
    (blankMeasurements s).div = s.div ∧ (blankMeasurements s).link = s.link ∧
    (blankMeasurements s).peers = s.peers ∧ (blankMeasurements s).stage = s.stage ∧
    (blankMeasurements s).head = s.head ∧ (blankMeasurements s).arb = s.arb ∧
    (blankMeasurements s).pumps = s.pumps ∧ (blankMeasurements s).lamps = s.lamps ∧
    (blankMeasurements s).gate = s.gate ∧ (blankMeasurements s).order = s.order ∧
    (blankMeasurements s).free = s.free ∧ (blankMeasurements s).pending = s.pending ∧
    (blankMeasurements s).cfg = s.cfg ∧ (blankMeasurements s).mode = s.mode := by
  unfold blankMeasurements; (repeat' split) <;> simp

@[simp] theorem floatAbandons_frame (s : State) (p : PumpId) :
    (floatAbandons s p).loader = s.loader ∧ (floatAbandons s p).inputs = s.inputs ∧
    (floatAbandons s p).div = s.div ∧ (floatAbandons s p).probes = s.probes ∧ (floatAbandons s p).peers = s.peers ∧
    (floatAbandons s p).stage = s.stage ∧ (floatAbandons s p).head = s.head ∧ (floatAbandons s p).lamps = s.lamps ∧
    (floatAbandons s p).gate = s.gate ∧ (floatAbandons s p).order = s.order ∧ (floatAbandons s p).free = s.free ∧
    (floatAbandons s p).pending = s.pending ∧ (floatAbandons s p).cfg = s.cfg ∧ (floatAbandons s p).mode = s.mode := by
  unfold floatAbandons; (repeat' split) <;> simp

@[simp] theorem floatStart_frame (s : State) (p : PumpId) :
    (floatStart s p).loader = s.loader ∧ (floatStart s p).inputs = s.inputs ∧ (floatStart s p).div = s.div ∧
    (floatStart s p).peers = s.peers ∧ (floatStart s p).stage = s.stage ∧ (floatStart s p).head = s.head ∧
    (floatStart s p).lamps = s.lamps ∧ (floatStart s p).gate = s.gate ∧ (floatStart s p).order = s.order ∧
    (floatStart s p).free = s.free ∧ (floatStart s p).pending = s.pending ∧ (floatStart s p).cfg = s.cfg ∧
    (floatStart s p).mode = s.mode := by
  unfold floatStart; (repeat' split) <;> simp

@[simp] theorem pumpsEnterFlood_frame (s : State) :
    (pumpsEnterFlood s).loader = s.loader ∧ (pumpsEnterFlood s).inputs = s.inputs ∧
    (pumpsEnterFlood s).div = s.div ∧ (pumpsEnterFlood s).probes = s.probes ∧ (pumpsEnterFlood s).peers = s.peers ∧
    (pumpsEnterFlood s).stage = s.stage ∧ (pumpsEnterFlood s).head = s.head ∧ (pumpsEnterFlood s).lamps = s.lamps ∧
    (pumpsEnterFlood s).gate = s.gate ∧ (pumpsEnterFlood s).order = s.order ∧ (pumpsEnterFlood s).free = s.free ∧
    (pumpsEnterFlood s).pending = s.pending ∧ (pumpsEnterFlood s).cfg = s.cfg ∧ (pumpsEnterFlood s).mode = s.mode := by
  unfold pumpsEnterFlood; (repeat' split) <;> simp

@[simp] theorem pumpsStageChange_frame (s : State) (old : Stage) :
    (pumpsStageChange s old).loader = s.loader ∧ (pumpsStageChange s old).inputs = s.inputs ∧
    (pumpsStageChange s old).div = s.div ∧ (pumpsStageChange s old).probes = s.probes ∧
    (pumpsStageChange s old).peers = s.peers ∧ (pumpsStageChange s old).stage = s.stage ∧
    (pumpsStageChange s old).head = s.head ∧ (pumpsStageChange s old).lamps = s.lamps ∧
    (pumpsStageChange s old).gate = s.gate ∧ (pumpsStageChange s old).order = s.order ∧
    (pumpsStageChange s old).free = s.free ∧ (pumpsStageChange s old).pending = s.pending ∧
    (pumpsStageChange s old).cfg = s.cfg ∧ (pumpsStageChange s old).mode = s.mode := by
  unfold pumpsStageChange; (repeat' split) <;> simp <;> (repeat' split) <;> simp

@[simp] theorem pumpSupplyLost_frame (s : State) (p : PumpId) :
    (pumpSupplyLost s p).loader = s.loader ∧ (pumpSupplyLost s p).inputs = s.inputs ∧
    (pumpSupplyLost s p).div = s.div ∧ (pumpSupplyLost s p).probes = s.probes ∧
    (pumpSupplyLost s p).peers = s.peers ∧ (pumpSupplyLost s p).stage = s.stage ∧
    (pumpSupplyLost s p).head = s.head ∧ (pumpSupplyLost s p).lamps = s.lamps ∧
    (pumpSupplyLost s p).gate = s.gate ∧ (pumpSupplyLost s p).order = s.order ∧
    (pumpSupplyLost s p).free = s.free ∧ (pumpSupplyLost s p).pending = s.pending ∧
    (pumpSupplyLost s p).cfg = s.cfg ∧ (pumpSupplyLost s p).mode = s.mode := by
  unfold pumpSupplyLost; (repeat' split) <;> simp <;> (repeat' split) <;> simp

@[simp] theorem pumpsSupplyLost_frame (s : State) :
    (pumpsSupplyLost s).loader = s.loader ∧ (pumpsSupplyLost s).inputs = s.inputs ∧
    (pumpsSupplyLost s).div = s.div ∧ (pumpsSupplyLost s).probes = s.probes ∧ (pumpsSupplyLost s).peers = s.peers ∧
    (pumpsSupplyLost s).stage = s.stage ∧ (pumpsSupplyLost s).head = s.head ∧ (pumpsSupplyLost s).lamps = s.lamps ∧
    (pumpsSupplyLost s).gate = s.gate ∧ (pumpsSupplyLost s).order = s.order ∧ (pumpsSupplyLost s).free = s.free ∧
    (pumpsSupplyLost s).pending = s.pending ∧ (pumpsSupplyLost s).cfg = s.cfg ∧ (pumpsSupplyLost s).mode = s.mode := by
  unfold pumpsSupplyLost; (repeat' split) <;> simp

@[simp] theorem judgeThermal_frame (s : State) (p : PumpId) :
    (judgeThermal s p).loader = s.loader ∧ (judgeThermal s p).inputs = s.inputs ∧ (judgeThermal s p).div = s.div ∧
    (judgeThermal s p).probes = s.probes ∧ (judgeThermal s p).peers = s.peers ∧
    (judgeThermal s p).stage = s.stage ∧ (judgeThermal s p).head = s.head ∧ (judgeThermal s p).lamps = s.lamps ∧
    (judgeThermal s p).gate = s.gate ∧ (judgeThermal s p).order = s.order ∧ (judgeThermal s p).free = s.free ∧
    (judgeThermal s p).pending = s.pending ∧ (judgeThermal s p).cfg = s.cfg ∧ (judgeThermal s p).mode = s.mode := by
  unfold judgeThermal; (repeat' split) <;> simp

@[simp] theorem pumpsSupplyBack_frame (s : State) :
    (pumpsSupplyBack s).loader = s.loader ∧ (pumpsSupplyBack s).inputs = s.inputs ∧
    (pumpsSupplyBack s).div = s.div ∧ (pumpsSupplyBack s).probes = s.probes ∧ (pumpsSupplyBack s).peers = s.peers ∧
    (pumpsSupplyBack s).stage = s.stage ∧ (pumpsSupplyBack s).head = s.head ∧ (pumpsSupplyBack s).lamps = s.lamps ∧
    (pumpsSupplyBack s).gate = s.gate ∧ (pumpsSupplyBack s).order = s.order ∧ (pumpsSupplyBack s).free = s.free ∧
    (pumpsSupplyBack s).pending = s.pending ∧ (pumpsSupplyBack s).cfg = s.cfg ∧ (pumpsSupplyBack s).mode = s.mode := by
  unfold pumpsSupplyBack; (repeat' split) <;> simp

@[simp] theorem lagShed_frame (s : State) :
    (lagShed s).loader = s.loader ∧ (lagShed s).inputs = s.inputs ∧ (lagShed s).div = s.div ∧
    (lagShed s).probes = s.probes ∧ (lagShed s).peers = s.peers ∧ (lagShed s).stage = s.stage ∧
    (lagShed s).head = s.head ∧ (lagShed s).lamps = s.lamps ∧ (lagShed s).gate = s.gate ∧
    (lagShed s).order = s.order ∧ (lagShed s).free = s.free ∧ (lagShed s).pending = s.pending ∧
    (lagShed s).cfg = s.cfg ∧ (lagShed s).mode = s.mode := by
  unfold lagShed; (repeat' split) <;> simp

@[simp] theorem tellClaiming_frame (s : State) (r : Requester) :
    (tellClaiming s r).loader = s.loader ∧ (tellClaiming s r).inputs = s.inputs ∧ (tellClaiming s r).div = s.div ∧
    (tellClaiming s r).probes = s.probes ∧ (tellClaiming s r).peers = s.peers ∧
    (tellClaiming s r).stage = s.stage ∧ (tellClaiming s r).head = s.head ∧ (tellClaiming s r).lamps = s.lamps ∧
    (tellClaiming s r).gate = s.gate ∧ (tellClaiming s r).order = s.order ∧ (tellClaiming s r).free = s.free ∧
    (tellClaiming s r).pending = s.pending ∧ (tellClaiming s r).cfg = s.cfg ∧ (tellClaiming s r).mode = s.mode := by
  unfold tellClaiming; (repeat' split) <;> simp

@[simp] theorem tellBack_frame (s : State) (r : Requester) :
    (tellBack s r).loader = s.loader ∧ (tellBack s r).inputs = s.inputs ∧ (tellBack s r).div = s.div ∧
    (tellBack s r).probes = s.probes ∧ (tellBack s r).peers = s.peers ∧ (tellBack s r).stage = s.stage ∧
    (tellBack s r).head = s.head ∧ (tellBack s r).lamps = s.lamps ∧ (tellBack s r).gate = s.gate ∧
    (tellBack s r).order = s.order ∧ (tellBack s r).free = s.free ∧ (tellBack s r).pending = s.pending ∧
    (tellBack s r).cfg = s.cfg ∧ (tellBack s r).mode = s.mode := by
  unfold tellBack; (repeat' split) <;> simp

@[simp] theorem tellSurgeStart_frame (s : State) (r : Requester) :
    (tellSurgeStart s r).loader = s.loader ∧ (tellSurgeStart s r).inputs = s.inputs ∧
    (tellSurgeStart s r).div = s.div ∧ (tellSurgeStart s r).probes = s.probes ∧
    (tellSurgeStart s r).peers = s.peers ∧ (tellSurgeStart s r).stage = s.stage ∧
    (tellSurgeStart s r).head = s.head ∧ (tellSurgeStart s r).order = s.order ∧
    (tellSurgeStart s r).free = s.free ∧ (tellSurgeStart s r).pending = s.pending ∧
    (tellSurgeStart s r).cfg = s.cfg ∧ (tellSurgeStart s r).mode = s.mode := by
  unfold tellSurgeStart; (repeat' split) <;> simp

@[simp] theorem tellSurgeEnd_frame (s : State) (r : Requester) :
    (tellSurgeEnd s r).loader = s.loader ∧ (tellSurgeEnd s r).inputs = s.inputs ∧ (tellSurgeEnd s r).div = s.div ∧
    (tellSurgeEnd s r).probes = s.probes ∧ (tellSurgeEnd s r).peers = s.peers ∧
    (tellSurgeEnd s r).stage = s.stage ∧ (tellSurgeEnd s r).gate = s.gate ∧ (tellSurgeEnd s r).order = s.order ∧
    (tellSurgeEnd s r).free = s.free ∧ (tellSurgeEnd s r).pending = s.pending ∧ (tellSurgeEnd s r).cfg = s.cfg ∧
    (tellSurgeEnd s r).mode = s.mode := by
  unfold tellSurgeEnd; (repeat' split) <;> simp

@[simp] theorem tellAbandoned_frame (s : State) (r : Requester) :
    (tellAbandoned s r).loader = s.loader ∧ (tellAbandoned s r).inputs = s.inputs ∧
    (tellAbandoned s r).div = s.div ∧ (tellAbandoned s r).probes = s.probes ∧ (tellAbandoned s r).peers = s.peers ∧
    (tellAbandoned s r).stage = s.stage ∧ (tellAbandoned s r).head = s.head ∧ (tellAbandoned s r).gate = s.gate ∧
    (tellAbandoned s r).order = s.order ∧ (tellAbandoned s r).free = s.free ∧
    (tellAbandoned s r).pending = s.pending ∧ (tellAbandoned s r).cfg = s.cfg ∧ (tellAbandoned s r).mode = s.mode := by
  unfold tellAbandoned; (repeat' split) <;> simp

@[simp] theorem serve_frame (s : State) (r : Requester) :
    (serve s r).loader = s.loader ∧ (serve s r).inputs = s.inputs ∧ (serve s r).div = s.div ∧
    (serve s r).probes = s.probes ∧ (serve s r).peers = s.peers ∧ (serve s r).stage = s.stage ∧
    (serve s r).head = s.head ∧ (serve s r).lamps = s.lamps ∧ (serve s r).gate = s.gate ∧
    (serve s r).order = s.order ∧ (serve s r).free = s.free ∧ (serve s r).pending = s.pending ∧
    (serve s r).cfg = s.cfg ∧ (serve s r).mode = s.mode := by
  unfold serve; (repeat' split) <;> simp

@[simp] theorem tryCandidates_frame (s : State) (l : List Requester) :
    (tryCandidates l s).loader = s.loader ∧ (tryCandidates l s).inputs = s.inputs ∧
    (tryCandidates l s).div = s.div ∧ (tryCandidates l s).probes = s.probes ∧ (tryCandidates l s).peers = s.peers ∧
    (tryCandidates l s).stage = s.stage ∧ (tryCandidates l s).lamps = s.lamps ∧ (tryCandidates l s).gate = s.gate ∧
    (tryCandidates l s).order = s.order ∧ (tryCandidates l s).free = s.free ∧
    (tryCandidates l s).pending = s.pending ∧ (tryCandidates l s).cfg = s.cfg ∧ (tryCandidates l s).mode = s.mode := by
  induction l generalizing s with
  | nil => simp [tryCandidates]
  | cons r rest ih => unfold tryCandidates; split <;> simp [ih]

@[simp] theorem select_frame (s : State) :
    (select s).loader = s.loader ∧ (select s).inputs = s.inputs ∧ (select s).div = s.div ∧
    (select s).probes = s.probes ∧ (select s).peers = s.peers ∧ (select s).stage = s.stage ∧
    (select s).lamps = s.lamps ∧ (select s).gate = s.gate ∧ (select s).order = s.order ∧ (select s).free = s.free ∧
    (select s).pending = s.pending ∧ (select s).cfg = s.cfg ∧ (select s).mode = s.mode := by
  unfold select; (repeat' split) <;> simp

@[simp] theorem moveMark_frame (s : State) (o n : Requester) :
    (moveMark s o n).loader = s.loader ∧ (moveMark s o n).inputs = s.inputs ∧ (moveMark s o n).div = s.div ∧
    (moveMark s o n).probes = s.probes ∧ (moveMark s o n).peers = s.peers ∧ (moveMark s o n).stage = s.stage ∧
    (moveMark s o n).head = s.head ∧ (moveMark s o n).lamps = s.lamps ∧ (moveMark s o n).gate = s.gate ∧
    (moveMark s o n).order = s.order ∧ (moveMark s o n).free = s.free ∧ (moveMark s o n).pending = s.pending ∧
    (moveMark s o n).cfg = s.cfg ∧ (moveMark s o n).mode = s.mode := by
  unfold moveMark; (repeat' split) <;> simp

@[simp] theorem substitute_frame (s : State) (r : Requester) :
    (substitute s r).loader = s.loader ∧ (substitute s r).inputs = s.inputs ∧ (substitute s r).div = s.div ∧
    (substitute s r).probes = s.probes ∧ (substitute s r).peers = s.peers ∧ (substitute s r).stage = s.stage ∧
    (substitute s r).lamps = s.lamps ∧ (substitute s r).gate = s.gate ∧ (substitute s r).order = s.order ∧
    (substitute s r).free = s.free ∧ (substitute s r).pending = s.pending ∧ (substitute s r).cfg = s.cfg ∧
    (substitute s r).mode = s.mode := by
  unfold substitute; (repeat' split) <;> simp

@[simp] theorem substituteAll_frame (s : State) (l : List Requester) :
    (substituteAll l s).loader = s.loader ∧ (substituteAll l s).inputs = s.inputs ∧
    (substituteAll l s).div = s.div ∧ (substituteAll l s).probes = s.probes ∧ (substituteAll l s).peers = s.peers ∧
    (substituteAll l s).stage = s.stage ∧ (substituteAll l s).lamps = s.lamps ∧ (substituteAll l s).gate = s.gate ∧
    (substituteAll l s).order = s.order ∧ (substituteAll l s).free = s.free ∧
    (substituteAll l s).pending = s.pending ∧ (substituteAll l s).cfg = s.cfg ∧ (substituteAll l s).mode = s.mode := by
  induction l generalizing s with
  | nil => simp [substituteAll]
  | cons r rest ih => unfold substituteAll; simp [ih]

@[simp] theorem attempt_frame (s : State) (b : State) :
    (attempt b s).loader = s.loader ∧ (attempt b s).inputs = s.inputs ∧ (attempt b s).div = s.div ∧
    (attempt b s).probes = s.probes ∧ (attempt b s).peers = s.peers ∧ (attempt b s).stage = s.stage ∧
    (attempt b s).lamps = s.lamps ∧ (attempt b s).gate = s.gate ∧ (attempt b s).order = s.order ∧
    (attempt b s).free = s.free ∧ (attempt b s).pending = s.pending ∧ (attempt b s).cfg = s.cfg ∧
    (attempt b s).mode = s.mode := by
  unfold attempt; dsimp only; split <;> simp

@[simp] theorem finish_frame (s : State) (b : State) :
    (finish b s).loader = s.loader ∧ (finish b s).inputs = s.inputs ∧ (finish b s).div = s.div ∧
    (finish b s).probes = s.probes ∧ (finish b s).peers = s.peers ∧ (finish b s).stage = s.stage ∧
    (finish b s).lamps = s.lamps ∧ (finish b s).gate = s.gate ∧ (finish b s).order = s.order ∧
    (finish b s).free = s.free ∧ (finish b s).pending = s.pending ∧ (finish b s).cfg = s.cfg ∧
    (finish b s).mode = s.mode := by
  unfold finish; (repeat' split) <;> simp

@[simp] theorem withdrawOwnClaim_frame (s : State) :
    (withdrawOwnClaim s).loader = s.loader ∧ (withdrawOwnClaim s).inputs = s.inputs ∧
    (withdrawOwnClaim s).div = s.div ∧ (withdrawOwnClaim s).probes = s.probes ∧
    (withdrawOwnClaim s).peers = s.peers ∧ (withdrawOwnClaim s).stage = s.stage ∧
    (withdrawOwnClaim s).head = s.head ∧ (withdrawOwnClaim s).gate = s.gate ∧
    (withdrawOwnClaim s).order = s.order ∧ (withdrawOwnClaim s).free = s.free ∧
    (withdrawOwnClaim s).pending = s.pending ∧ (withdrawOwnClaim s).cfg = s.cfg ∧
    (withdrawOwnClaim s).mode = s.mode := by
  unfold withdrawOwnClaim; (repeat' split) <;> simp

@[simp] theorem yieldClaim_frame (s : State) :
    (yieldClaim s).loader = s.loader ∧ (yieldClaim s).inputs = s.inputs ∧ (yieldClaim s).div = s.div ∧
    (yieldClaim s).probes = s.probes ∧ (yieldClaim s).peers = s.peers ∧ (yieldClaim s).stage = s.stage ∧
    (yieldClaim s).head = s.head ∧ (yieldClaim s).lamps = s.lamps ∧ (yieldClaim s).gate = s.gate ∧
    (yieldClaim s).order = s.order ∧ (yieldClaim s).free = s.free ∧ (yieldClaim s).pending = s.pending ∧
    (yieldClaim s).cfg = s.cfg ∧ (yieldClaim s).mode = s.mode := by
  unfold yieldClaim; (repeat' split) <;> simp

@[simp] theorem abandonClaim_frame (s : State) :
    (abandonClaim s).loader = s.loader ∧ (abandonClaim s).inputs = s.inputs ∧ (abandonClaim s).div = s.div ∧
    (abandonClaim s).probes = s.probes ∧ (abandonClaim s).peers = s.peers ∧ (abandonClaim s).stage = s.stage ∧
    (abandonClaim s).head = s.head ∧ (abandonClaim s).gate = s.gate ∧ (abandonClaim s).order = s.order ∧
    (abandonClaim s).free = s.free ∧ (abandonClaim s).pending = s.pending ∧ (abandonClaim s).cfg = s.cfg ∧
    (abandonClaim s).mode = s.mode := by
  unfold abandonClaim; (repeat' split) <;> simp

@[simp] theorem openWindow_frame (s : State) :
    (openWindow s).loader = s.loader ∧ (openWindow s).inputs = s.inputs ∧ (openWindow s).div = s.div ∧
    (openWindow s).probes = s.probes ∧ (openWindow s).link = s.link ∧ (openWindow s).peers = s.peers ∧
    (openWindow s).stage = s.stage ∧ (openWindow s).head = s.head ∧ (openWindow s).pumps = s.pumps ∧
    (openWindow s).lamps = s.lamps ∧ (openWindow s).gate = s.gate ∧ (openWindow s).order = s.order ∧
    (openWindow s).free = s.free ∧ (openWindow s).pending = s.pending ∧ (openWindow s).cfg = s.cfg ∧
    (openWindow s).mode = s.mode := by
  unfold openWindow; (repeat' split) <;> simp

@[simp] theorem claimReported_frame (s : State) :
    (claimReported s).loader = s.loader ∧ (claimReported s).inputs = s.inputs ∧ (claimReported s).div = s.div ∧
    (claimReported s).probes = s.probes ∧ (claimReported s).peers = s.peers ∧ (claimReported s).stage = s.stage ∧
    (claimReported s).head = s.head ∧ (claimReported s).gate = s.gate ∧ (claimReported s).order = s.order ∧
    (claimReported s).free = s.free ∧ (claimReported s).pending = s.pending ∧ (claimReported s).cfg = s.cfg ∧
    (claimReported s).mode = s.mode := by
  unfold claimReported; (repeat' split) <;> simp <;> (repeat' split) <;> simp

@[simp] theorem beginSurge_frame (s : State) (r : Requester) :
    (beginSurge s r).loader = s.loader ∧ (beginSurge s r).inputs = s.inputs ∧ (beginSurge s r).div = s.div ∧
    (beginSurge s r).peers = s.peers ∧ (beginSurge s r).stage = s.stage ∧ (beginSurge s r).head = s.head ∧
    (beginSurge s r).order = s.order ∧ (beginSurge s r).free = s.free ∧ (beginSurge s r).pending = s.pending ∧
    (beginSurge s r).cfg = s.cfg ∧ (beginSurge s r).mode = s.mode := by
  unfold beginSurge; (repeat' split) <;> simp

@[simp] theorem windowExpired_frame (s : State) :
    (windowExpired s).loader = s.loader ∧ (windowExpired s).inputs = s.inputs ∧ (windowExpired s).div = s.div ∧
    (windowExpired s).peers = s.peers ∧ (windowExpired s).stage = s.stage ∧ (windowExpired s).head = s.head ∧
    (windowExpired s).order = s.order ∧ (windowExpired s).free = s.free ∧ (windowExpired s).pending = s.pending ∧
    (windowExpired s).cfg = s.cfg ∧ (windowExpired s).mode = s.mode := by
  unfold windowExpired; (repeat' split) <;> simp

@[simp] theorem surgeExpired_frame (s : State) :
    (surgeExpired s).loader = s.loader ∧ (surgeExpired s).inputs = s.inputs ∧ (surgeExpired s).div = s.div ∧
    (surgeExpired s).probes = s.probes ∧ (surgeExpired s).peers = s.peers ∧ (surgeExpired s).stage = s.stage ∧
    (surgeExpired s).gate = s.gate ∧ (surgeExpired s).order = s.order ∧ (surgeExpired s).free = s.free ∧
    (surgeExpired s).pending = s.pending ∧ (surgeExpired s).cfg = s.cfg ∧ (surgeExpired s).mode = s.mode := by
  unfold surgeExpired; (repeat' split) <;> simp

@[simp] theorem arbiterSupplyLost_frame (s : State) :
    (arbiterSupplyLost s).loader = s.loader ∧ (arbiterSupplyLost s).inputs = s.inputs ∧
    (arbiterSupplyLost s).div = s.div ∧ (arbiterSupplyLost s).probes = s.probes ∧
    (arbiterSupplyLost s).peers = s.peers ∧ (arbiterSupplyLost s).stage = s.stage ∧
    (arbiterSupplyLost s).head = s.head ∧ (arbiterSupplyLost s).gate = s.gate ∧
    (arbiterSupplyLost s).order = s.order ∧ (arbiterSupplyLost s).free = s.free ∧
    (arbiterSupplyLost s).pending = s.pending ∧ (arbiterSupplyLost s).cfg = s.cfg ∧
    (arbiterSupplyLost s).mode = s.mode := by
  unfold arbiterSupplyLost; (repeat' split) <;> simp

@[simp] theorem maskByFloor_frame (s : State) :
    (maskByFloor s).loader = s.loader ∧ (maskByFloor s).inputs = s.inputs ∧ (maskByFloor s).div = s.div ∧
    (maskByFloor s).probes = s.probes ∧ (maskByFloor s).link = s.link ∧ (maskByFloor s).peers = s.peers ∧
    (maskByFloor s).stage = s.stage ∧ (maskByFloor s).head = s.head ∧ (maskByFloor s).pumps = s.pumps ∧
    (maskByFloor s).lamps = s.lamps ∧ (maskByFloor s).gate = s.gate ∧ (maskByFloor s).order = s.order ∧
    (maskByFloor s).free = s.free ∧ (maskByFloor s).pending = s.pending ∧ (maskByFloor s).cfg = s.cfg ∧
    (maskByFloor s).mode = s.mode := by
  unfold maskByFloor; (repeat' split) <;> simp

@[simp] theorem recordClaim_frame (s : State) (c : ClaimRecord) :
    (recordClaim s c).loader = s.loader ∧ (recordClaim s c).inputs = s.inputs ∧ (recordClaim s c).div = s.div ∧
    (recordClaim s c).probes = s.probes ∧ (recordClaim s c).link = s.link ∧ (recordClaim s c).peers = s.peers ∧
    (recordClaim s c).stage = s.stage ∧ (recordClaim s c).head = s.head ∧ (recordClaim s c).pumps = s.pumps ∧
    (recordClaim s c).lamps = s.lamps ∧ (recordClaim s c).gate = s.gate ∧ (recordClaim s c).order = s.order ∧
    (recordClaim s c).free = s.free ∧ (recordClaim s c).pending = s.pending ∧ (recordClaim s c).cfg = s.cfg ∧
    (recordClaim s c).mode = s.mode := by
  unfold recordClaim; (repeat' split) <;> simp

@[simp] theorem removeClaim_frame (s : State) (k : Nat) :
    (removeClaim s k).loader = s.loader ∧ (removeClaim s k).inputs = s.inputs ∧ (removeClaim s k).div = s.div ∧
    (removeClaim s k).probes = s.probes ∧ (removeClaim s k).link = s.link ∧ (removeClaim s k).peers = s.peers ∧
    (removeClaim s k).stage = s.stage ∧ (removeClaim s k).head = s.head ∧ (removeClaim s k).pumps = s.pumps ∧
    (removeClaim s k).lamps = s.lamps ∧ (removeClaim s k).gate = s.gate ∧ (removeClaim s k).order = s.order ∧
    (removeClaim s k).free = s.free ∧ (removeClaim s k).pending = s.pending ∧ (removeClaim s k).cfg = s.cfg ∧
    (removeClaim s k).mode = s.mode := by
  unfold removeClaim; (repeat' split) <;> simp

@[simp] theorem claimHeard_frame (s : State) (k : Nat) (b : List Byte) :
    (claimHeard s k b).loader = s.loader ∧ (claimHeard s k b).inputs = s.inputs ∧ (claimHeard s k b).div = s.div ∧
    (claimHeard s k b).probes = s.probes ∧ (claimHeard s k b).peers = s.peers ∧
    (claimHeard s k b).stage = s.stage ∧ (claimHeard s k b).head = s.head ∧ (claimHeard s k b).gate = s.gate ∧
    (claimHeard s k b).order = s.order ∧ (claimHeard s k b).free = s.free ∧
    (claimHeard s k b).pending = s.pending ∧ (claimHeard s k b).cfg = s.cfg ∧ (claimHeard s k b).mode = s.mode := by
  unfold claimHeard; (repeat' split) <;> simp <;> (repeat' split) <;> simp

@[simp] theorem busyHeardFrom_frame (s : State) (k : Nat) (b : List Byte) :
    (busyHeardFrom s k b).loader = s.loader ∧ (busyHeardFrom s k b).inputs = s.inputs ∧
    (busyHeardFrom s k b).div = s.div ∧ (busyHeardFrom s k b).probes = s.probes ∧
    (busyHeardFrom s k b).peers = s.peers ∧ (busyHeardFrom s k b).stage = s.stage ∧
    (busyHeardFrom s k b).head = s.head ∧ (busyHeardFrom s k b).gate = s.gate ∧
    (busyHeardFrom s k b).order = s.order ∧ (busyHeardFrom s k b).free = s.free ∧
    (busyHeardFrom s k b).pending = s.pending ∧ (busyHeardFrom s k b).cfg = s.cfg ∧
    (busyHeardFrom s k b).mode = s.mode := by
  unfold busyHeardFrom; (repeat' split) <;> simp <;> (repeat' split) <;> simp

@[simp] theorem handStage_frame (s : State) (old : Stage) :
    (handStage s old).loader = s.loader ∧ (handStage s old).inputs = s.inputs ∧ (handStage s old).div = s.div ∧
    (handStage s old).probes = s.probes ∧ (handStage s old).peers = s.peers ∧ (handStage s old).stage = s.stage ∧
    (handStage s old).head = s.head ∧ (handStage s old).order = s.order ∧ (handStage s old).free = s.free ∧
    (handStage s old).pending = s.pending ∧ (handStage s old).cfg = s.cfg ∧ (handStage s old).mode = s.mode := by
  unfold handStage; (repeat' split) <;> simp

@[simp] theorem evaluateStage_frame (s : State) (x : Bool) :
    (evaluateStage s x).loader = s.loader ∧ (evaluateStage s x).inputs = s.inputs ∧
    (evaluateStage s x).div = s.div ∧ (evaluateStage s x).probes = s.probes ∧ (evaluateStage s x).peers = s.peers ∧
    (evaluateStage s x).head = s.head ∧ (evaluateStage s x).order = s.order ∧ (evaluateStage s x).free = s.free ∧
    (evaluateStage s x).pending = s.pending ∧ (evaluateStage s x).cfg = s.cfg ∧ (evaluateStage s x).mode = s.mode := by
  unfold evaluateStage; (repeat' split) <;> simp <;> (repeat' split) <;> simp

@[simp] theorem judgeIsolated_frame (s : State) :
    (judgeIsolated s).loader = s.loader ∧ (judgeIsolated s).inputs = s.inputs ∧ (judgeIsolated s).div = s.div ∧
    (judgeIsolated s).probes = s.probes ∧ (judgeIsolated s).stage = s.stage ∧ (judgeIsolated s).head = s.head ∧
    (judgeIsolated s).arb = s.arb ∧ (judgeIsolated s).pumps = s.pumps ∧ (judgeIsolated s).lamps = s.lamps ∧
    (judgeIsolated s).gate = s.gate ∧ (judgeIsolated s).order = s.order ∧ (judgeIsolated s).free = s.free ∧
    (judgeIsolated s).pending = s.pending ∧ (judgeIsolated s).cfg = s.cfg ∧ (judgeIsolated s).mode = s.mode := by
  unfold judgeIsolated; (repeat' split) <;> simp

@[simp] theorem agePeers_frame (s : State) :
    (agePeers s).loader = s.loader ∧ (agePeers s).inputs = s.inputs ∧ (agePeers s).div = s.div ∧
    (agePeers s).probes = s.probes ∧ (agePeers s).head = s.head ∧ (agePeers s).order = s.order ∧
    (agePeers s).free = s.free ∧ (agePeers s).pending = s.pending ∧ (agePeers s).cfg = s.cfg ∧
    (agePeers s).mode = s.mode := by
  unfold agePeers; (repeat' split) <;> simp <;> (repeat' split) <;> simp

@[simp] theorem statusHeard_frame (s : State) (k : Nat) (b : List Byte) :
    (statusHeard s k b).loader = s.loader ∧ (statusHeard s k b).inputs = s.inputs ∧
    (statusHeard s k b).div = s.div ∧ (statusHeard s k b).probes = s.probes ∧ (statusHeard s k b).head = s.head ∧
    (statusHeard s k b).order = s.order ∧ (statusHeard s k b).free = s.free ∧
    (statusHeard s k b).pending = s.pending ∧ (statusHeard s k b).cfg = s.cfg ∧ (statusHeard s k b).mode = s.mode := by
  unfold statusHeard; (repeat' split) <;> simp

@[simp] theorem ownNumberHeard_frame (s : State) :
    (ownNumberHeard s).loader = s.loader ∧ (ownNumberHeard s).inputs = s.inputs ∧ (ownNumberHeard s).div = s.div ∧
    (ownNumberHeard s).probes = s.probes ∧ (ownNumberHeard s).stage = s.stage ∧ (ownNumberHeard s).head = s.head ∧
    (ownNumberHeard s).arb = s.arb ∧ (ownNumberHeard s).pumps = s.pumps ∧ (ownNumberHeard s).lamps = s.lamps ∧
    (ownNumberHeard s).gate = s.gate ∧ (ownNumberHeard s).order = s.order ∧ (ownNumberHeard s).free = s.free ∧
    (ownNumberHeard s).pending = s.pending ∧ (ownNumberHeard s).cfg = s.cfg ∧ (ownNumberHeard s).mode = s.mode := by
  unfold ownNumberHeard; (repeat' split) <;> simp

@[simp] theorem advanceSeq_frame (s : State) :
    (advanceSeq s).loader = s.loader ∧ (advanceSeq s).inputs = s.inputs ∧ (advanceSeq s).div = s.div ∧
    (advanceSeq s).probes = s.probes ∧ (advanceSeq s).link = s.link ∧ (advanceSeq s).stage = s.stage ∧
    (advanceSeq s).head = s.head ∧ (advanceSeq s).arb = s.arb ∧ (advanceSeq s).pumps = s.pumps ∧
    (advanceSeq s).lamps = s.lamps ∧ (advanceSeq s).gate = s.gate ∧ (advanceSeq s).order = s.order ∧
    (advanceSeq s).free = s.free ∧ (advanceSeq s).pending = s.pending ∧ (advanceSeq s).cfg = s.cfg ∧
    (advanceSeq s).mode = s.mode := by
  unfold advanceSeq; (repeat' split) <;> simp

@[simp] theorem onProbe_frame (s : State) (p : ProbeId) (f : Probe → Probe) :
    (onProbe s p f).loader = s.loader ∧ (onProbe s p f).inputs = s.inputs ∧ (onProbe s p f).div = s.div ∧
    (onProbe s p f).link = s.link ∧ (onProbe s p f).peers = s.peers ∧ (onProbe s p f).stage = s.stage ∧
    (onProbe s p f).head = s.head ∧ (onProbe s p f).arb = s.arb ∧ (onProbe s p f).pumps = s.pumps ∧
    (onProbe s p f).lamps = s.lamps ∧ (onProbe s p f).gate = s.gate ∧ (onProbe s p f).order = s.order ∧
    (onProbe s p f).free = s.free ∧ (onProbe s p f).pending = s.pending ∧ (onProbe s p f).cfg = s.cfg ∧
    (onProbe s p f).mode = s.mode := by
  unfold onProbe; (repeat' split) <;> simp

@[simp] theorem dischargeProbe_frame (s : State) (p : ProbeId) :
    (dischargeProbe s p).loader = s.loader ∧ (dischargeProbe s p).inputs = s.inputs ∧
    (dischargeProbe s p).div = s.div ∧ (dischargeProbe s p).link = s.link ∧ (dischargeProbe s p).peers = s.peers ∧
    (dischargeProbe s p).stage = s.stage ∧ (dischargeProbe s p).head = s.head ∧ (dischargeProbe s p).arb = s.arb ∧
    (dischargeProbe s p).pumps = s.pumps ∧ (dischargeProbe s p).lamps = s.lamps ∧
    (dischargeProbe s p).gate = s.gate ∧ (dischargeProbe s p).order = s.order ∧
    (dischargeProbe s p).free = s.free ∧ (dischargeProbe s p).pending = s.pending ∧
    (dischargeProbe s p).cfg = s.cfg ∧ (dischargeProbe s p).mode = s.mode := by
  unfold dischargeProbe; (repeat' split) <;> simp

@[simp] theorem cycleToB_frame (s : State) :
    (cycleToB s).loader = s.loader ∧ (cycleToB s).inputs = s.inputs ∧ (cycleToB s).div = s.div ∧
    (cycleToB s).link = s.link ∧ (cycleToB s).peers = s.peers ∧ (cycleToB s).stage = s.stage ∧
    (cycleToB s).head = s.head ∧ (cycleToB s).arb = s.arb ∧ (cycleToB s).pumps = s.pumps ∧
    (cycleToB s).lamps = s.lamps ∧ (cycleToB s).gate = s.gate ∧ (cycleToB s).order = s.order ∧
    (cycleToB s).free = s.free ∧ (cycleToB s).pending = s.pending ∧ (cycleToB s).cfg = s.cfg ∧
    (cycleToB s).mode = s.mode := by
  unfold cycleToB; (repeat' split) <;> simp

@[simp] theorem beginCycle_frame (s : State) :
    (beginCycle s).loader = s.loader ∧ (beginCycle s).inputs = s.inputs ∧ (beginCycle s).div = s.div ∧
    (beginCycle s).link = s.link ∧ (beginCycle s).peers = s.peers ∧ (beginCycle s).stage = s.stage ∧
    (beginCycle s).head = s.head ∧ (beginCycle s).arb = s.arb ∧ (beginCycle s).pumps = s.pumps ∧
    (beginCycle s).lamps = s.lamps ∧ (beginCycle s).gate = s.gate ∧ (beginCycle s).order = s.order ∧
    (beginCycle s).free = s.free ∧ (beginCycle s).pending = s.pending ∧ (beginCycle s).cfg = s.cfg ∧
    (beginCycle s).mode = s.mode := by
  unfold beginCycle; (repeat' split) <;> simp

@[simp] theorem handDepth_frame (s : State) (p : ProbeId) :
    (handDepth s p).loader = s.loader ∧ (handDepth s p).inputs = s.inputs ∧ (handDepth s p).div = s.div ∧
    (handDepth s p).probes = s.probes ∧ (handDepth s p).peers = s.peers ∧ (handDepth s p).head = s.head ∧
    (handDepth s p).order = s.order ∧ (handDepth s p).free = s.free ∧ (handDepth s p).pending = s.pending ∧
    (handDepth s p).cfg = s.cfg ∧ (handDepth s p).mode = s.mode := by
  unfold handDepth; (repeat' split) <;> simp <;> (repeat' split) <;> simp

@[simp] theorem completeMeasurement_frame (s : State) (p : ProbeId) (n : Nat) (f : Probe → Probe) :
    (completeMeasurement s p n f).loader = s.loader ∧ (completeMeasurement s p n f).inputs = s.inputs ∧
    (completeMeasurement s p n f).div = s.div ∧ (completeMeasurement s p n f).peers = s.peers ∧
    (completeMeasurement s p n f).head = s.head ∧ (completeMeasurement s p n f).order = s.order ∧
    (completeMeasurement s p n f).free = s.free ∧ (completeMeasurement s p n f).pending = s.pending ∧
    (completeMeasurement s p n f).cfg = s.cfg ∧ (completeMeasurement s p n f).mode = s.mode := by
  unfold completeMeasurement; (repeat' split) <;> simp <;> (repeat' split) <;> simp

@[simp] theorem appendRoadway_frame (s : State) :
    (appendRoadway s).loader = s.loader ∧ (appendRoadway s).inputs = s.inputs ∧ (appendRoadway s).div = s.div ∧
    (appendRoadway s).link = s.link ∧ (appendRoadway s).peers = s.peers ∧ (appendRoadway s).stage = s.stage ∧
    (appendRoadway s).head = s.head ∧ (appendRoadway s).arb = s.arb ∧ (appendRoadway s).pumps = s.pumps ∧
    (appendRoadway s).lamps = s.lamps ∧ (appendRoadway s).gate = s.gate ∧ (appendRoadway s).order = s.order ∧
    (appendRoadway s).free = s.free ∧ (appendRoadway s).pending = s.pending ∧ (appendRoadway s).cfg = s.cfg ∧
    (appendRoadway s).mode = s.mode := by
  unfold appendRoadway; (repeat' split) <;> simp

@[simp] theorem sampleExpired_frame (s : State) :
    (sampleExpired s).loader = s.loader ∧ (sampleExpired s).inputs = s.inputs ∧ (sampleExpired s).div = s.div ∧
    (sampleExpired s).link = s.link ∧ (sampleExpired s).peers = s.peers ∧ (sampleExpired s).stage = s.stage ∧
    (sampleExpired s).head = s.head ∧ (sampleExpired s).arb = s.arb ∧ (sampleExpired s).pumps = s.pumps ∧
    (sampleExpired s).lamps = s.lamps ∧ (sampleExpired s).gate = s.gate ∧ (sampleExpired s).order = s.order ∧
    (sampleExpired s).free = s.free ∧ (sampleExpired s).pending = s.pending ∧ (sampleExpired s).cfg = s.cfg ∧
    (sampleExpired s).mode = s.mode := by
  unfold sampleExpired; (repeat' split) <;> simp <;> (repeat' split) <;> simp

@[simp] theorem beginCharge_frame (s : State) (p : ProbeId) :
    (beginCharge s p).loader = s.loader ∧ (beginCharge s p).inputs = s.inputs ∧ (beginCharge s p).div = s.div ∧
    (beginCharge s p).link = s.link ∧ (beginCharge s p).peers = s.peers ∧ (beginCharge s p).stage = s.stage ∧
    (beginCharge s p).head = s.head ∧ (beginCharge s p).arb = s.arb ∧ (beginCharge s p).pumps = s.pumps ∧
    (beginCharge s p).lamps = s.lamps ∧ (beginCharge s p).gate = s.gate ∧ (beginCharge s p).order = s.order ∧
    (beginCharge s p).free = s.free ∧ (beginCharge s p).pending = s.pending ∧ (beginCharge s p).cfg = s.cfg ∧
    (beginCharge s p).mode = s.mode := by
  unfold beginCharge; (repeat' split) <;> simp

@[simp] theorem tripTaken_frame (s : State) (p : ProbeId) :
    (tripTaken s p).loader = s.loader ∧ (tripTaken s p).inputs = s.inputs ∧ (tripTaken s p).div = s.div ∧
    (tripTaken s p).peers = s.peers ∧ (tripTaken s p).head = s.head ∧ (tripTaken s p).order = s.order ∧
    (tripTaken s p).free = s.free ∧ (tripTaken s p).pending = s.pending ∧ (tripTaken s p).cfg = s.cfg ∧
    (tripTaken s p).mode = s.mode := by
  unfold tripTaken; (repeat' split) <;> simp

@[simp] theorem overflowTaken_frame (s : State) (p : ProbeId) :
    (overflowTaken s p).loader = s.loader ∧ (overflowTaken s p).inputs = s.inputs ∧
    (overflowTaken s p).div = s.div ∧ (overflowTaken s p).peers = s.peers ∧ (overflowTaken s p).head = s.head ∧
    (overflowTaken s p).order = s.order ∧ (overflowTaken s p).free = s.free ∧
    (overflowTaken s p).pending = s.pending ∧ (overflowTaken s p).cfg = s.cfg ∧ (overflowTaken s p).mode = s.mode := by
  unfold overflowTaken; (repeat' split) <;> simp

@[simp] theorem historyExpired_frame (s : State) :
    (historyExpired s).loader = s.loader ∧ (historyExpired s).inputs = s.inputs ∧ (historyExpired s).div = s.div ∧
    (historyExpired s).peers = s.peers ∧ (historyExpired s).head = s.head ∧ (historyExpired s).order = s.order ∧
    (historyExpired s).free = s.free ∧ (historyExpired s).pending = s.pending ∧ (historyExpired s).cfg = s.cfg ∧
    (historyExpired s).mode = s.mode := by
  unfold historyExpired; (repeat' split) <;> simp <;> (repeat' split) <;> simp

@[simp] theorem beginFrame_frame (s : State) (k : TxKind) :
    (beginFrame s k).loader = s.loader ∧ (beginFrame s k).inputs = s.inputs ∧ (beginFrame s k).div = s.div ∧
    (beginFrame s k).probes = s.probes ∧ (beginFrame s k).peers = s.peers ∧ (beginFrame s k).stage = s.stage ∧
    (beginFrame s k).head = s.head ∧ (beginFrame s k).arb = s.arb ∧ (beginFrame s k).pumps = s.pumps ∧
    (beginFrame s k).lamps = s.lamps ∧ (beginFrame s k).gate = s.gate ∧ (beginFrame s k).order = s.order ∧
    (beginFrame s k).pending = s.pending ∧ (beginFrame s k).cfg = s.cfg ∧ (beginFrame s k).mode = s.mode := by
  unfold beginFrame; (repeat' split) <;> simp

@[simp] theorem leaveLine_frame (s : State) :
    (leaveLine s).loader = s.loader ∧ (leaveLine s).inputs = s.inputs ∧ (leaveLine s).div = s.div ∧
    (leaveLine s).probes = s.probes ∧ (leaveLine s).peers = s.peers ∧ (leaveLine s).stage = s.stage ∧
    (leaveLine s).head = s.head ∧ (leaveLine s).arb = s.arb ∧ (leaveLine s).pumps = s.pumps ∧
    (leaveLine s).lamps = s.lamps ∧ (leaveLine s).gate = s.gate ∧ (leaveLine s).order = s.order ∧
    (leaveLine s).free = s.free ∧ (leaveLine s).pending = s.pending ∧ (leaveLine s).cfg = s.cfg ∧
    (leaveLine s).mode = s.mode := by
  unfold leaveLine; (repeat' split) <;> simp

@[simp] theorem leaveLineSent_frame (s : State) :
    (leaveLineSent s).loader = s.loader ∧ (leaveLineSent s).inputs = s.inputs ∧ (leaveLineSent s).div = s.div ∧
    (leaveLineSent s).probes = s.probes ∧ (leaveLineSent s).peers = s.peers ∧ (leaveLineSent s).stage = s.stage ∧
    (leaveLineSent s).head = s.head ∧ (leaveLineSent s).arb = s.arb ∧ (leaveLineSent s).pumps = s.pumps ∧
    (leaveLineSent s).lamps = s.lamps ∧ (leaveLineSent s).gate = s.gate ∧ (leaveLineSent s).order = s.order ∧
    (leaveLineSent s).free = s.free ∧ (leaveLineSent s).pending = s.pending ∧ (leaveLineSent s).cfg = s.cfg ∧
    (leaveLineSent s).mode = s.mode := by
  unfold leaveLineSent; (repeat' split) <;> simp

@[simp] theorem lineLeft_frame (s : State) :
    (lineLeft s).loader = s.loader ∧ (lineLeft s).inputs = s.inputs ∧ (lineLeft s).div = s.div ∧
    (lineLeft s).probes = s.probes ∧ (lineLeft s).peers = s.peers ∧ (lineLeft s).stage = s.stage ∧
    (lineLeft s).head = s.head ∧ (lineLeft s).arb = s.arb ∧ (lineLeft s).pumps = s.pumps ∧
    (lineLeft s).lamps = s.lamps ∧ (lineLeft s).gate = s.gate ∧ (lineLeft s).order = s.order ∧
    (lineLeft s).free = s.free ∧ (lineLeft s).pending = s.pending ∧ (lineLeft s).cfg = s.cfg ∧
    (lineLeft s).mode = s.mode := by
  unfold lineLeft; (repeat' split) <;> simp

@[simp] theorem lineBack_frame (s : State) :
    (lineBack s).loader = s.loader ∧ (lineBack s).inputs = s.inputs ∧ (lineBack s).div = s.div ∧
    (lineBack s).probes = s.probes ∧ (lineBack s).peers = s.peers ∧ (lineBack s).stage = s.stage ∧
    (lineBack s).head = s.head ∧ (lineBack s).arb = s.arb ∧ (lineBack s).pumps = s.pumps ∧
    (lineBack s).lamps = s.lamps ∧ (lineBack s).gate = s.gate ∧ (lineBack s).order = s.order ∧
    (lineBack s).free = s.free ∧ (lineBack s).pending = s.pending ∧ (lineBack s).cfg = s.cfg ∧
    (lineBack s).mode = s.mode := by
  unfold lineBack; (repeat' split) <;> simp

@[simp] theorem reportSent_frame (s : State) (k : TxKind) :
    (reportSent s k).loader = s.loader ∧ (reportSent s k).inputs = s.inputs ∧ (reportSent s k).div = s.div ∧
    (reportSent s k).probes = s.probes ∧ (reportSent s k).stage = s.stage ∧ (reportSent s k).head = s.head ∧
    (reportSent s k).gate = s.gate ∧ (reportSent s k).order = s.order ∧ (reportSent s k).free = s.free ∧
    (reportSent s k).pending = s.pending ∧ (reportSent s k).cfg = s.cfg ∧ (reportSent s k).mode = s.mode := by
  unfold reportSent; (repeat' split) <;> simp

@[simp] theorem reportDropped_frame (s : State) (k : TxKind) :
    (reportDropped s k).loader = s.loader ∧ (reportDropped s k).inputs = s.inputs ∧
    (reportDropped s k).div = s.div ∧ (reportDropped s k).probes = s.probes ∧ (reportDropped s k).peers = s.peers ∧
    (reportDropped s k).stage = s.stage ∧ (reportDropped s k).head = s.head ∧ (reportDropped s k).gate = s.gate ∧
    (reportDropped s k).order = s.order ∧ (reportDropped s k).free = s.free ∧
    (reportDropped s k).pending = s.pending ∧ (reportDropped s k).cfg = s.cfg ∧ (reportDropped s k).mode = s.mode := by
  unfold reportDropped; (repeat' split) <;> simp

@[simp] theorem failedAttempt_frame (s : State) (f : TxFrame) :
    (failedAttempt s f).loader = s.loader ∧ (failedAttempt s f).inputs = s.inputs ∧
    (failedAttempt s f).div = s.div ∧ (failedAttempt s f).probes = s.probes ∧ (failedAttempt s f).peers = s.peers ∧
    (failedAttempt s f).stage = s.stage ∧ (failedAttempt s f).head = s.head ∧ (failedAttempt s f).gate = s.gate ∧
    (failedAttempt s f).order = s.order ∧ (failedAttempt s f).free = s.free ∧
    (failedAttempt s f).pending = s.pending ∧ (failedAttempt s f).cfg = s.cfg ∧ (failedAttempt s f).mode = s.mode := by
  unfold failedAttempt; (repeat' split) <;> simp

@[simp] theorem statusPeriodExpired_frame (s : State) :
    (statusPeriodExpired s).loader = s.loader ∧ (statusPeriodExpired s).inputs = s.inputs ∧
    (statusPeriodExpired s).div = s.div ∧ (statusPeriodExpired s).probes = s.probes ∧
    (statusPeriodExpired s).head = s.head ∧ (statusPeriodExpired s).order = s.order ∧
    (statusPeriodExpired s).free = s.free ∧ (statusPeriodExpired s).pending = s.pending ∧
    (statusPeriodExpired s).cfg = s.cfg ∧ (statusPeriodExpired s).mode = s.mode := by
  unfold statusPeriodExpired; (repeat' split) <;> simp

@[simp] theorem listenInExpired_frame (s : State) :
    (listenInExpired s).loader = s.loader ∧ (listenInExpired s).inputs = s.inputs ∧
    (listenInExpired s).div = s.div ∧ (listenInExpired s).probes = s.probes ∧ (listenInExpired s).link = s.link ∧
    (listenInExpired s).peers = s.peers ∧ (listenInExpired s).stage = s.stage ∧ (listenInExpired s).head = s.head ∧
    (listenInExpired s).pumps = s.pumps ∧ (listenInExpired s).lamps = s.lamps ∧ (listenInExpired s).gate = s.gate ∧
    (listenInExpired s).order = s.order ∧ (listenInExpired s).free = s.free ∧
    (listenInExpired s).pending = s.pending ∧ (listenInExpired s).cfg = s.cfg ∧ (listenInExpired s).mode = s.mode := by
  unfold listenInExpired; (repeat' split) <;> simp

@[simp] theorem handSupplyLost_frame (s : State) :
    (handSupplyLost s).loader = s.loader ∧ (handSupplyLost s).inputs = s.inputs ∧ (handSupplyLost s).div = s.div ∧
    (handSupplyLost s).probes = s.probes ∧ (handSupplyLost s).peers = s.peers ∧
    (handSupplyLost s).stage = s.stage ∧ (handSupplyLost s).order = s.order ∧ (handSupplyLost s).free = s.free ∧
    (handSupplyLost s).pending = s.pending ∧ (handSupplyLost s).cfg = s.cfg ∧ (handSupplyLost s).mode = s.mode := by
  unfold handSupplyLost; (repeat' split) <;> simp

@[simp] theorem handSupplyBack_frame (s : State) :
    (handSupplyBack s).loader = s.loader ∧ (handSupplyBack s).inputs = s.inputs ∧ (handSupplyBack s).div = s.div ∧
    (handSupplyBack s).probes = s.probes ∧ (handSupplyBack s).peers = s.peers ∧
    (handSupplyBack s).stage = s.stage ∧ (handSupplyBack s).order = s.order ∧ (handSupplyBack s).free = s.free ∧
    (handSupplyBack s).pending = s.pending ∧ (handSupplyBack s).cfg = s.cfg ∧ (handSupplyBack s).mode = s.mode := by
  unfold handSupplyBack; (repeat' split) <;> simp

@[simp] theorem stopPoweredPump_frame (s : State) (p : PumpId) :
    (stopPoweredPump s p).loader = s.loader ∧ (stopPoweredPump s p).inputs = s.inputs ∧
    (stopPoweredPump s p).div = s.div ∧ (stopPoweredPump s p).probes = s.probes ∧
    (stopPoweredPump s p).peers = s.peers ∧ (stopPoweredPump s p).stage = s.stage ∧
    (stopPoweredPump s p).head = s.head ∧ (stopPoweredPump s p).lamps = s.lamps ∧
    (stopPoweredPump s p).gate = s.gate ∧ (stopPoweredPump s p).order = s.order ∧
    (stopPoweredPump s p).free = s.free ∧ (stopPoweredPump s p).pending = s.pending ∧
    (stopPoweredPump s p).cfg = s.cfg ∧ (stopPoweredPump s p).mode = s.mode := by
  unfold stopPoweredPump; (repeat' split) <;> simp

@[simp] theorem supplyModeChanged_frame (s : State) (o : Supply) :
    (supplyModeChanged s o).loader = s.loader ∧ (supplyModeChanged s o).inputs = s.inputs ∧
    (supplyModeChanged s o).div = s.div ∧ (supplyModeChanged s o).probes = s.probes ∧
    (supplyModeChanged s o).peers = s.peers ∧ (supplyModeChanged s o).stage = s.stage ∧
    (supplyModeChanged s o).order = s.order ∧ (supplyModeChanged s o).free = s.free ∧
    (supplyModeChanged s o).pending = s.pending ∧ (supplyModeChanged s o).cfg = s.cfg ∧
    (supplyModeChanged s o).mode = s.mode := by
  unfold supplyModeChanged; (repeat' split) <;> simp

@[simp] theorem supplySenseChanged_frame (s : State) (l : SupplyLine) (b : Bool) :
    (supplySenseChanged s l b).loader = s.loader ∧ (supplySenseChanged s l b).div = s.div ∧
    (supplySenseChanged s l b).probes = s.probes ∧ (supplySenseChanged s l b).peers = s.peers ∧
    (supplySenseChanged s l b).stage = s.stage ∧ (supplySenseChanged s l b).order = s.order ∧
    (supplySenseChanged s l b).free = s.free ∧ (supplySenseChanged s l b).pending = s.pending ∧
    (supplySenseChanged s l b).cfg = s.cfg ∧ (supplySenseChanged s l b).mode = s.mode := by
  unfold supplySenseChanged; (repeat' split) <;> simp <;> (repeat' split) <;> simp

@[simp] theorem budgetStep_frame (s : State) :
    (budgetStep s).loader = s.loader ∧ (budgetStep s).inputs = s.inputs ∧ (budgetStep s).div = s.div ∧
    (budgetStep s).probes = s.probes ∧ (budgetStep s).peers = s.peers ∧ (budgetStep s).stage = s.stage ∧
    (budgetStep s).gate = s.gate ∧ (budgetStep s).order = s.order ∧ (budgetStep s).free = s.free ∧
    (budgetStep s).pending = s.pending ∧ (budgetStep s).cfg = s.cfg ∧ (budgetStep s).mode = s.mode := by
  unfold budgetStep; (repeat' split) <;> simp

@[simp] theorem evaluateBudget_frame (s : State) :
    (evaluateBudget s).loader = s.loader ∧ (evaluateBudget s).inputs = s.inputs ∧ (evaluateBudget s).div = s.div ∧
    (evaluateBudget s).probes = s.probes ∧ (evaluateBudget s).peers = s.peers ∧
    (evaluateBudget s).stage = s.stage ∧ (evaluateBudget s).gate = s.gate ∧ (evaluateBudget s).order = s.order ∧
    (evaluateBudget s).free = s.free ∧ (evaluateBudget s).pending = s.pending ∧ (evaluateBudget s).cfg = s.cfg ∧
    (evaluateBudget s).mode = s.mode := by
  unfold evaluateBudget; (repeat' split) <;> simp

@[simp] theorem runSenseChanged_frame (s : State) (p : PumpId) (b : Bool) :
    (runSenseChanged s p b).loader = s.loader ∧ (runSenseChanged s p b).div = s.div ∧
    (runSenseChanged s p b).probes = s.probes ∧ (runSenseChanged s p b).link = s.link ∧
    (runSenseChanged s p b).peers = s.peers ∧ (runSenseChanged s p b).stage = s.stage ∧
    (runSenseChanged s p b).head = s.head ∧ (runSenseChanged s p b).arb = s.arb ∧
    (runSenseChanged s p b).lamps = s.lamps ∧ (runSenseChanged s p b).gate = s.gate ∧
    (runSenseChanged s p b).order = s.order ∧ (runSenseChanged s p b).free = s.free ∧
    (runSenseChanged s p b).pending = s.pending ∧ (runSenseChanged s p b).cfg = s.cfg ∧
    (runSenseChanged s p b).mode = s.mode := by
  unfold runSenseChanged; (repeat' split) <;> simp

@[simp] theorem thermalInputChanged_frame (s : State) (p : PumpId) (b : Bool) :
    (thermalInputChanged s p b).loader = s.loader ∧ (thermalInputChanged s p b).div = s.div ∧
    (thermalInputChanged s p b).probes = s.probes ∧ (thermalInputChanged s p b).peers = s.peers ∧
    (thermalInputChanged s p b).stage = s.stage ∧ (thermalInputChanged s p b).head = s.head ∧
    (thermalInputChanged s p b).lamps = s.lamps ∧ (thermalInputChanged s p b).gate = s.gate ∧
    (thermalInputChanged s p b).order = s.order ∧ (thermalInputChanged s p b).free = s.free ∧
    (thermalInputChanged s p b).pending = s.pending ∧ (thermalInputChanged s p b).cfg = s.cfg ∧
    (thermalInputChanged s p b).mode = s.mode := by
  unfold thermalInputChanged; (repeat' split) <;> simp

@[simp] theorem runLimitReached_frame (s : State) (p : PumpId) :
    (runLimitReached s p).loader = s.loader ∧ (runLimitReached s p).inputs = s.inputs ∧
    (runLimitReached s p).div = s.div ∧ (runLimitReached s p).probes = s.probes ∧
    (runLimitReached s p).peers = s.peers ∧ (runLimitReached s p).stage = s.stage ∧
    (runLimitReached s p).head = s.head ∧ (runLimitReached s p).lamps = s.lamps ∧
    (runLimitReached s p).gate = s.gate ∧ (runLimitReached s p).order = s.order ∧
    (runLimitReached s p).free = s.free ∧ (runLimitReached s p).pending = s.pending ∧
    (runLimitReached s p).cfg = s.cfg ∧ (runLimitReached s p).mode = s.mode := by
  unfold runLimitReached; (repeat' split) <;> simp

@[simp] theorem exerciseReached_frame (s : State) (p : PumpId) :
    (exerciseReached s p).loader = s.loader ∧ (exerciseReached s p).inputs = s.inputs ∧
    (exerciseReached s p).div = s.div ∧ (exerciseReached s p).probes = s.probes ∧
    (exerciseReached s p).peers = s.peers ∧ (exerciseReached s p).stage = s.stage ∧
    (exerciseReached s p).head = s.head ∧ (exerciseReached s p).lamps = s.lamps ∧
    (exerciseReached s p).gate = s.gate ∧ (exerciseReached s p).order = s.order ∧
    (exerciseReached s p).free = s.free ∧ (exerciseReached s p).pending = s.pending ∧
    (exerciseReached s p).cfg = s.cfg ∧ (exerciseReached s p).mode = s.mode := by
  unfold exerciseReached; (repeat' split) <;> simp

@[simp] theorem setFloat_frame (s : State) (b : Bool) :
    (setFloat s b).loader = s.loader ∧ (setFloat s b).div = s.div ∧ (setFloat s b).probes = s.probes ∧
    (setFloat s b).link = s.link ∧ (setFloat s b).peers = s.peers ∧ (setFloat s b).stage = s.stage ∧
    (setFloat s b).head = s.head ∧ (setFloat s b).arb = s.arb ∧ (setFloat s b).pumps = s.pumps ∧
    (setFloat s b).lamps = s.lamps ∧ (setFloat s b).gate = s.gate ∧ (setFloat s b).order = s.order ∧
    (setFloat s b).free = s.free ∧ (setFloat s b).pending = s.pending ∧ (setFloat s b).cfg = s.cfg ∧
    (setFloat s b).mode = s.mode := by
  unfold setFloat; (repeat' split) <;> simp

@[simp] theorem setFloatTimer_frame (s : State) (t : Timer) :
    (setFloatTimer s t).loader = s.loader ∧ (setFloatTimer s t).inputs = s.inputs ∧
    (setFloatTimer s t).div = s.div ∧ (setFloatTimer s t).probes = s.probes ∧ (setFloatTimer s t).link = s.link ∧
    (setFloatTimer s t).peers = s.peers ∧ (setFloatTimer s t).stage = s.stage ∧ (setFloatTimer s t).head = s.head ∧
    (setFloatTimer s t).arb = s.arb ∧ (setFloatTimer s t).lamps = s.lamps ∧ (setFloatTimer s t).gate = s.gate ∧
    (setFloatTimer s t).order = s.order ∧ (setFloatTimer s t).free = s.free ∧
    (setFloatTimer s t).pending = s.pending ∧ (setFloatTimer s t).cfg = s.cfg ∧ (setFloatTimer s t).mode = s.mode := by
  unfold setFloatTimer; (repeat' split) <;> simp

@[simp] theorem judgeFloatRun_frame (s : State) (p : PumpId) :
    (judgeFloatRun s p).loader = s.loader ∧ (judgeFloatRun s p).inputs = s.inputs ∧
    (judgeFloatRun s p).div = s.div ∧ (judgeFloatRun s p).probes = s.probes ∧
    (judgeFloatRun s p).link = s.link ∧ (judgeFloatRun s p).peers = s.peers ∧
    (judgeFloatRun s p).stage = s.stage ∧ (judgeFloatRun s p).head = s.head ∧ (judgeFloatRun s p).arb = s.arb ∧
    (judgeFloatRun s p).lamps = s.lamps ∧ (judgeFloatRun s p).gate = s.gate ∧
    (judgeFloatRun s p).order = s.order ∧ (judgeFloatRun s p).free = s.free ∧
    (judgeFloatRun s p).pending = s.pending ∧ (judgeFloatRun s p).cfg = s.cfg ∧
    (judgeFloatRun s p).mode = s.mode := by
  unfold judgeFloatRun; split <;> simp

@[simp] theorem floatReleased_frame (s : State) :
    (floatReleased s).loader = s.loader ∧ (floatReleased s).div = s.div ∧
    (floatReleased s).probes = s.probes ∧ (floatReleased s).peers = s.peers ∧
    (floatReleased s).stage = s.stage ∧ (floatReleased s).head = s.head ∧
    (floatReleased s).lamps = s.lamps ∧ (floatReleased s).gate = s.gate ∧
    (floatReleased s).order = s.order ∧ (floatReleased s).free = s.free ∧
    (floatReleased s).pending = s.pending ∧ (floatReleased s).cfg = s.cfg ∧
    (floatReleased s).mode = s.mode := by
  unfold floatReleased; simp

@[simp] theorem floatExpired_frame (s : State) :
    (floatExpired s).loader = s.loader ∧ (floatExpired s).inputs = s.inputs ∧ (floatExpired s).div = s.div ∧
    (floatExpired s).peers = s.peers ∧ (floatExpired s).stage = s.stage ∧ (floatExpired s).head = s.head ∧
    (floatExpired s).lamps = s.lamps ∧ (floatExpired s).gate = s.gate ∧ (floatExpired s).order = s.order ∧
    (floatExpired s).free = s.free ∧ (floatExpired s).pending = s.pending ∧ (floatExpired s).cfg = s.cfg ∧
    (floatExpired s).mode = s.mode := by
  unfold floatExpired; (repeat' split) <;> simp <;> (repeat' split) <;> simp

@[simp] theorem periodBoundary_frame (s : State) :
    (periodBoundary s).loader = s.loader ∧ (periodBoundary s).inputs = s.inputs ∧ (periodBoundary s).div = s.div ∧
    (periodBoundary s).probes = s.probes ∧ (periodBoundary s).link = s.link ∧ (periodBoundary s).peers = s.peers ∧
    (periodBoundary s).stage = s.stage ∧ (periodBoundary s).head = s.head ∧ (periodBoundary s).arb = s.arb ∧
    (periodBoundary s).pumps = s.pumps ∧ (periodBoundary s).gate = s.gate ∧ (periodBoundary s).order = s.order ∧
    (periodBoundary s).free = s.free ∧ (periodBoundary s).pending = s.pending ∧ (periodBoundary s).cfg = s.cfg ∧
    (periodBoundary s).mode = s.mode := by
  unfold periodBoundary; (repeat' split) <;> simp

@[simp] theorem edgeReached_frame (s : State) (n : Nat) :
    (edgeReached s n).loader = s.loader ∧ (edgeReached s n).inputs = s.inputs ∧ (edgeReached s n).div = s.div ∧
    (edgeReached s n).probes = s.probes ∧ (edgeReached s n).link = s.link ∧ (edgeReached s n).peers = s.peers ∧
    (edgeReached s n).stage = s.stage ∧ (edgeReached s n).head = s.head ∧ (edgeReached s n).arb = s.arb ∧
    (edgeReached s n).pumps = s.pumps ∧ (edgeReached s n).gate = s.gate ∧ (edgeReached s n).order = s.order ∧
    (edgeReached s n).free = s.free ∧ (edgeReached s n).pending = s.pending ∧ (edgeReached s n).cfg = s.cfg ∧
    (edgeReached s n).mode = s.mode := by
  unfold edgeReached; (repeat' split) <;> simp

@[simp] theorem daylightChanged_frame (s : State) (b : Bool) :
    (daylightChanged s b).loader = s.loader ∧ (daylightChanged s b).div = s.div ∧
    (daylightChanged s b).probes = s.probes ∧ (daylightChanged s b).link = s.link ∧
    (daylightChanged s b).peers = s.peers ∧ (daylightChanged s b).stage = s.stage ∧
    (daylightChanged s b).arb = s.arb ∧ (daylightChanged s b).pumps = s.pumps ∧
    (daylightChanged s b).gate = s.gate ∧ (daylightChanged s b).order = s.order ∧
    (daylightChanged s b).free = s.free ∧ (daylightChanged s b).pending = s.pending ∧
    (daylightChanged s b).cfg = s.cfg ∧ (daylightChanged s b).mode = s.mode := by
  unfold daylightChanged; (repeat' split) <;> simp <;> (repeat' split) <;> simp

@[simp] theorem flashExpired_frame (s : State) :
    (flashExpired s).loader = s.loader ∧ (flashExpired s).inputs = s.inputs ∧ (flashExpired s).div = s.div ∧
    (flashExpired s).probes = s.probes ∧ (flashExpired s).link = s.link ∧ (flashExpired s).peers = s.peers ∧
    (flashExpired s).stage = s.stage ∧ (flashExpired s).head = s.head ∧ (flashExpired s).arb = s.arb ∧
    (flashExpired s).pumps = s.pumps ∧ (flashExpired s).gate = s.gate ∧ (flashExpired s).order = s.order ∧
    (flashExpired s).free = s.free ∧ (flashExpired s).pending = s.pending ∧ (flashExpired s).cfg = s.cfg ∧
    (flashExpired s).mode = s.mode := by
  unfold flashExpired; (repeat' split) <;> simp

@[simp] theorem endLampTest_frame (s : State) :
    (endLampTest s).loader = s.loader ∧ (endLampTest s).inputs = s.inputs ∧ (endLampTest s).div = s.div ∧
    (endLampTest s).probes = s.probes ∧ (endLampTest s).link = s.link ∧ (endLampTest s).peers = s.peers ∧
    (endLampTest s).stage = s.stage ∧ (endLampTest s).head = s.head ∧ (endLampTest s).arb = s.arb ∧
    (endLampTest s).pumps = s.pumps ∧ (endLampTest s).gate = s.gate ∧ (endLampTest s).order = s.order ∧
    (endLampTest s).free = s.free ∧ (endLampTest s).pending = s.pending ∧ (endLampTest s).cfg = s.cfg ∧
    (endLampTest s).mode = s.mode := by
  unfold endLampTest; (repeat' split) <;> simp

@[simp] theorem setLoop_frame (s : State) (l : LoopId) (b : Bool) :
    (setLoop s l b).loader = s.loader ∧ (setLoop s l b).div = s.div ∧ (setLoop s l b).probes = s.probes ∧
    (setLoop s l b).link = s.link ∧ (setLoop s l b).peers = s.peers ∧ (setLoop s l b).stage = s.stage ∧
    (setLoop s l b).head = s.head ∧ (setLoop s l b).arb = s.arb ∧ (setLoop s l b).pumps = s.pumps ∧
    (setLoop s l b).lamps = s.lamps ∧ (setLoop s l b).gate = s.gate ∧ (setLoop s l b).order = s.order ∧
    (setLoop s l b).free = s.free ∧ (setLoop s l b).pending = s.pending ∧ (setLoop s l b).cfg = s.cfg ∧
    (setLoop s l b).mode = s.mode := by
  unfold setLoop; (repeat' split) <;> simp

@[simp] theorem loopChanged_frame (s : State) (l : LoopId) (b : Bool) :
    (loopChanged s l b).loader = s.loader ∧ (loopChanged s l b).div = s.div ∧
    (loopChanged s l b).probes = s.probes ∧ (loopChanged s l b).peers = s.peers ∧
    (loopChanged s l b).stage = s.stage ∧ (loopChanged s l b).head = s.head ∧ (loopChanged s l b).pumps = s.pumps ∧
    (loopChanged s l b).order = s.order ∧ (loopChanged s l b).free = s.free ∧
    (loopChanged s l b).pending = s.pending ∧ (loopChanged s l b).cfg = s.cfg ∧ (loopChanged s l b).mode = s.mode := by
  unfold loopChanged; (repeat' split) <;> simp

@[simp] theorem loopStuck_frame (s : State) (l : LoopId) :
    (loopStuck s l).loader = s.loader ∧ (loopStuck s l).inputs = s.inputs ∧ (loopStuck s l).div = s.div ∧
    (loopStuck s l).probes = s.probes ∧ (loopStuck s l).peers = s.peers ∧ (loopStuck s l).stage = s.stage ∧
    (loopStuck s l).head = s.head ∧ (loopStuck s l).pumps = s.pumps ∧ (loopStuck s l).order = s.order ∧
    (loopStuck s l).free = s.free ∧ (loopStuck s l).pending = s.pending ∧ (loopStuck s l).cfg = s.cfg ∧
    (loopStuck s l).mode = s.mode := by
  unfold loopStuck; (repeat' split) <;> simp

@[simp] theorem dwellReached_frame (s : State) :
    (dwellReached s).loader = s.loader ∧ (dwellReached s).inputs = s.inputs ∧ (dwellReached s).div = s.div ∧
    (dwellReached s).probes = s.probes ∧ (dwellReached s).peers = s.peers ∧ (dwellReached s).stage = s.stage ∧
    (dwellReached s).head = s.head ∧ (dwellReached s).pumps = s.pumps ∧ (dwellReached s).order = s.order ∧
    (dwellReached s).free = s.free ∧ (dwellReached s).pending = s.pending ∧ (dwellReached s).cfg = s.cfg ∧
    (dwellReached s).mode = s.mode := by
  unfold dwellReached; (repeat' split) <;> simp <;> (repeat' split) <;> simp

@[simp] theorem warningExpired_frame (s : State) :
    (warningExpired s).loader = s.loader ∧ (warningExpired s).inputs = s.inputs ∧ (warningExpired s).div = s.div ∧
    (warningExpired s).probes = s.probes ∧ (warningExpired s).peers = s.peers ∧
    (warningExpired s).stage = s.stage ∧ (warningExpired s).head = s.head ∧ (warningExpired s).pumps = s.pumps ∧
    (warningExpired s).order = s.order ∧ (warningExpired s).free = s.free ∧
    (warningExpired s).pending = s.pending ∧ (warningExpired s).cfg = s.cfg ∧ (warningExpired s).mode = s.mode := by
  unfold warningExpired; (repeat' split) <;> simp

@[simp] theorem blockedExpired_frame (s : State) :
    (blockedExpired s).loader = s.loader ∧ (blockedExpired s).inputs = s.inputs ∧ (blockedExpired s).div = s.div ∧
    (blockedExpired s).probes = s.probes ∧ (blockedExpired s).link = s.link ∧ (blockedExpired s).peers = s.peers ∧
    (blockedExpired s).stage = s.stage ∧ (blockedExpired s).head = s.head ∧ (blockedExpired s).arb = s.arb ∧
    (blockedExpired s).pumps = s.pumps ∧ (blockedExpired s).lamps = s.lamps ∧ (blockedExpired s).order = s.order ∧
    (blockedExpired s).free = s.free ∧ (blockedExpired s).pending = s.pending ∧ (blockedExpired s).cfg = s.cfg ∧
    (blockedExpired s).mode = s.mode := by
  unfold blockedExpired; (repeat' split) <;> simp

@[simp] theorem reopenReached_frame (s : State) :
    (reopenReached s).loader = s.loader ∧ (reopenReached s).inputs = s.inputs ∧ (reopenReached s).div = s.div ∧
    (reopenReached s).probes = s.probes ∧ (reopenReached s).peers = s.peers ∧ (reopenReached s).stage = s.stage ∧
    (reopenReached s).head = s.head ∧ (reopenReached s).pumps = s.pumps ∧ (reopenReached s).order = s.order ∧
    (reopenReached s).free = s.free ∧ (reopenReached s).pending = s.pending ∧ (reopenReached s).cfg = s.cfg ∧
    (reopenReached s).mode = s.mode := by
  unfold reopenReached; (repeat' split) <;> simp <;> (repeat' split) <;> simp

@[simp] theorem stopTravel_frame (s : State) :
    (stopTravel s).loader = s.loader ∧ (stopTravel s).inputs = s.inputs ∧ (stopTravel s).div = s.div ∧
    (stopTravel s).probes = s.probes ∧ (stopTravel s).link = s.link ∧ (stopTravel s).peers = s.peers ∧
    (stopTravel s).stage = s.stage ∧ (stopTravel s).head = s.head ∧ (stopTravel s).arb = s.arb ∧
    (stopTravel s).pumps = s.pumps ∧ (stopTravel s).lamps = s.lamps ∧ (stopTravel s).order = s.order ∧
    (stopTravel s).free = s.free ∧ (stopTravel s).pending = s.pending ∧ (stopTravel s).cfg = s.cfg ∧
    (stopTravel s).mode = s.mode := by
  unfold stopTravel; (repeat' split) <;> simp

@[simp] theorem downReached_frame (s : State) :
    (downReached s).loader = s.loader ∧ (downReached s).inputs = s.inputs ∧ (downReached s).div = s.div ∧
    (downReached s).probes = s.probes ∧ (downReached s).peers = s.peers ∧ (downReached s).stage = s.stage ∧
    (downReached s).head = s.head ∧ (downReached s).pumps = s.pumps ∧ (downReached s).order = s.order ∧
    (downReached s).free = s.free ∧ (downReached s).pending = s.pending ∧ (downReached s).cfg = s.cfg ∧
    (downReached s).mode = s.mode := by
  unfold downReached; (repeat' split) <;> simp

@[simp] theorem upReached_frame (s : State) :
    (upReached s).loader = s.loader ∧ (upReached s).inputs = s.inputs ∧ (upReached s).div = s.div ∧
    (upReached s).probes = s.probes ∧ (upReached s).peers = s.peers ∧ (upReached s).stage = s.stage ∧
    (upReached s).head = s.head ∧ (upReached s).pumps = s.pumps ∧ (upReached s).order = s.order ∧
    (upReached s).free = s.free ∧ (upReached s).pending = s.pending ∧ (upReached s).cfg = s.cfg ∧
    (upReached s).mode = s.mode := by
  unfold upReached; (repeat' split) <;> simp

@[simp] theorem localLimit_frame (s : State) :
    (localLimit s).loader = s.loader ∧ (localLimit s).inputs = s.inputs ∧ (localLimit s).div = s.div ∧
    (localLimit s).probes = s.probes ∧ (localLimit s).peers = s.peers ∧ (localLimit s).stage = s.stage ∧
    (localLimit s).head = s.head ∧ (localLimit s).pumps = s.pumps ∧ (localLimit s).order = s.order ∧
    (localLimit s).free = s.free ∧ (localLimit s).pending = s.pending ∧ (localLimit s).cfg = s.cfg ∧
    (localLimit s).mode = s.mode := by
  unfold localLimit; (repeat' split) <;> simp

@[simp] theorem turnedToLocal_frame (s : State) :
    (turnedToLocal s).loader = s.loader ∧ (turnedToLocal s).inputs = s.inputs ∧ (turnedToLocal s).div = s.div ∧
    (turnedToLocal s).probes = s.probes ∧ (turnedToLocal s).peers = s.peers ∧ (turnedToLocal s).stage = s.stage ∧
    (turnedToLocal s).head = s.head ∧ (turnedToLocal s).pumps = s.pumps ∧ (turnedToLocal s).order = s.order ∧
    (turnedToLocal s).free = s.free ∧ (turnedToLocal s).pending = s.pending ∧ (turnedToLocal s).cfg = s.cfg ∧
    (turnedToLocal s).mode = s.mode := by
  unfold turnedToLocal; (repeat' split) <;> simp

@[simp] theorem turnedToAuto_frame (s : State) :
    (turnedToAuto s).loader = s.loader ∧ (turnedToAuto s).inputs = s.inputs ∧ (turnedToAuto s).div = s.div ∧
    (turnedToAuto s).probes = s.probes ∧ (turnedToAuto s).peers = s.peers ∧ (turnedToAuto s).stage = s.stage ∧
    (turnedToAuto s).head = s.head ∧ (turnedToAuto s).pumps = s.pumps ∧ (turnedToAuto s).order = s.order ∧
    (turnedToAuto s).free = s.free ∧ (turnedToAuto s).pending = s.pending ∧ (turnedToAuto s).cfg = s.cfg ∧
    (turnedToAuto s).mode = s.mode := by
  unfold turnedToAuto; (repeat' split) <;> simp

@[simp] theorem keyTurned_frame (s : State) :
    (keyTurned s).loader = s.loader ∧ (keyTurned s).inputs = s.inputs ∧ (keyTurned s).div = s.div ∧
    (keyTurned s).probes = s.probes ∧ (keyTurned s).peers = s.peers ∧ (keyTurned s).stage = s.stage ∧
    (keyTurned s).head = s.head ∧ (keyTurned s).pumps = s.pumps ∧ (keyTurned s).order = s.order ∧
    (keyTurned s).free = s.free ∧ (keyTurned s).pending = s.pending ∧ (keyTurned s).cfg = s.cfg ∧
    (keyTurned s).mode = s.mode := by
  unfold keyTurned; (repeat' split) <;> simp

@[simp] theorem lowerPressed_frame (s : State) :
    (lowerPressed s).loader = s.loader ∧ (lowerPressed s).inputs = s.inputs ∧ (lowerPressed s).div = s.div ∧
    (lowerPressed s).probes = s.probes ∧ (lowerPressed s).peers = s.peers ∧ (lowerPressed s).stage = s.stage ∧
    (lowerPressed s).head = s.head ∧ (lowerPressed s).pumps = s.pumps ∧ (lowerPressed s).order = s.order ∧
    (lowerPressed s).free = s.free ∧ (lowerPressed s).pending = s.pending ∧ (lowerPressed s).cfg = s.cfg ∧
    (lowerPressed s).mode = s.mode := by
  unfold lowerPressed; (repeat' split) <;> simp

@[simp] theorem raisePressed_frame (s : State) :
    (raisePressed s).loader = s.loader ∧ (raisePressed s).inputs = s.inputs ∧ (raisePressed s).div = s.div ∧
    (raisePressed s).probes = s.probes ∧ (raisePressed s).peers = s.peers ∧ (raisePressed s).stage = s.stage ∧
    (raisePressed s).head = s.head ∧ (raisePressed s).pumps = s.pumps ∧ (raisePressed s).order = s.order ∧
    (raisePressed s).free = s.free ∧ (raisePressed s).pending = s.pending ∧ (raisePressed s).cfg = s.cfg ∧
    (raisePressed s).mode = s.mode := by
  unfold raisePressed; (repeat' split) <;> simp

@[simp] theorem frameEnded_frame (s : State) :
    (frameEnded s).loader = s.loader ∧ (frameEnded s).inputs = s.inputs ∧ (frameEnded s).div = s.div ∧
    (frameEnded s).probes = s.probes ∧ (frameEnded s).peers = s.peers ∧ (frameEnded s).stage = s.stage ∧
    (frameEnded s).head = s.head ∧ (frameEnded s).arb = s.arb ∧ (frameEnded s).pumps = s.pumps ∧
    (frameEnded s).lamps = s.lamps ∧ (frameEnded s).gate = s.gate ∧ (frameEnded s).order = s.order ∧
    (frameEnded s).free = s.free ∧ (frameEnded s).pending = s.pending ∧ (frameEnded s).cfg = s.cfg ∧
    (frameEnded s).mode = s.mode := by
  unfold frameEnded; (repeat' split) <;> simp

@[simp] theorem frameAccepted_frame (s : State) :
    (frameAccepted s).loader = s.loader ∧ (frameAccepted s).inputs = s.inputs ∧ (frameAccepted s).div = s.div ∧
    (frameAccepted s).probes = s.probes ∧ (frameAccepted s).peers = s.peers ∧ (frameAccepted s).stage = s.stage ∧
    (frameAccepted s).head = s.head ∧ (frameAccepted s).arb = s.arb ∧ (frameAccepted s).pumps = s.pumps ∧
    (frameAccepted s).lamps = s.lamps ∧ (frameAccepted s).gate = s.gate ∧ (frameAccepted s).order = s.order ∧
    (frameAccepted s).free = s.free ∧ (frameAccepted s).pending = s.pending ∧ (frameAccepted s).cfg = s.cfg ∧
    (frameAccepted s).mode = s.mode := by
  unfold frameAccepted; (repeat' split) <;> simp

@[simp] theorem answer_frame (s : State) (c : Byte) (a : Half) (r : OrderResult) (d : List Byte) :
    (answer s c a r d).loader = s.loader ∧ (answer s c a r d).inputs = s.inputs ∧ (answer s c a r d).div = s.div ∧
    (answer s c a r d).probes = s.probes ∧ (answer s c a r d).peers = s.peers ∧
    (answer s c a r d).stage = s.stage ∧ (answer s c a r d).head = s.head ∧ (answer s c a r d).arb = s.arb ∧
    (answer s c a r d).pumps = s.pumps ∧ (answer s c a r d).lamps = s.lamps ∧ (answer s c a r d).gate = s.gate ∧
    (answer s c a r d).free = s.free ∧ (answer s c a r d).pending = s.pending ∧ (answer s c a r d).cfg = s.cfg ∧
    (answer s c a r d).mode = s.mode := by
  unfold answer; (repeat' split) <;> simp

@[simp] theorem takeQuery_frame (s : State) (a : Half) :
    (takeQuery a s).loader = s.loader ∧ (takeQuery a s).inputs = s.inputs ∧ (takeQuery a s).div = s.div ∧
    (takeQuery a s).probes = s.probes ∧ (takeQuery a s).peers = s.peers ∧ (takeQuery a s).stage = s.stage ∧
    (takeQuery a s).head = s.head ∧ (takeQuery a s).arb = s.arb ∧ (takeQuery a s).pumps = s.pumps ∧
    (takeQuery a s).lamps = s.lamps ∧ (takeQuery a s).gate = s.gate ∧ (takeQuery a s).free = s.free ∧
    (takeQuery a s).pending = s.pending ∧ (takeQuery a s).cfg = s.cfg ∧ (takeQuery a s).mode = s.mode := by
  unfold takeQuery; (repeat' split) <;> simp

@[simp] theorem takeDescribe_frame (s : State) (a : Half) :
    (takeDescribe a s).loader = s.loader ∧ (takeDescribe a s).inputs = s.inputs ∧ (takeDescribe a s).div = s.div ∧
    (takeDescribe a s).probes = s.probes ∧ (takeDescribe a s).peers = s.peers ∧
    (takeDescribe a s).stage = s.stage ∧ (takeDescribe a s).head = s.head ∧ (takeDescribe a s).arb = s.arb ∧
    (takeDescribe a s).pumps = s.pumps ∧ (takeDescribe a s).lamps = s.lamps ∧ (takeDescribe a s).gate = s.gate ∧
    (takeDescribe a s).free = s.free ∧ (takeDescribe a s).pending = s.pending ∧ (takeDescribe a s).cfg = s.cfg ∧
    (takeDescribe a s).mode = s.mode := by
  unfold takeDescribe; (repeat' split) <;> simp

@[simp] theorem clearCounts_frame (s : State) :
    (clearCounts s).loader = s.loader ∧ (clearCounts s).inputs = s.inputs ∧ (clearCounts s).div = s.div ∧
    (clearCounts s).stage = s.stage ∧ (clearCounts s).head = s.head ∧ (clearCounts s).arb = s.arb ∧
    (clearCounts s).pumps = s.pumps ∧ (clearCounts s).lamps = s.lamps ∧ (clearCounts s).gate = s.gate ∧
    (clearCounts s).order = s.order ∧ (clearCounts s).free = s.free ∧ (clearCounts s).pending = s.pending ∧
    (clearCounts s).cfg = s.cfg ∧ (clearCounts s).mode = s.mode := by
  unfold clearCounts; (repeat' split) <;> simp

@[simp] theorem characterEnded_frame (s : State) :
    (characterEnded s).loader = s.loader ∧ (characterEnded s).inputs = s.inputs ∧ (characterEnded s).div = s.div ∧
    (characterEnded s).probes = s.probes ∧ (characterEnded s).peers = s.peers ∧
    (characterEnded s).stage = s.stage ∧ (characterEnded s).head = s.head ∧ (characterEnded s).arb = s.arb ∧
    (characterEnded s).pumps = s.pumps ∧ (characterEnded s).lamps = s.lamps ∧ (characterEnded s).gate = s.gate ∧
    (characterEnded s).order = s.order ∧ (characterEnded s).free = s.free ∧
    (characterEnded s).pending = s.pending ∧ (characterEnded s).cfg = s.cfg ∧ (characterEnded s).mode = s.mode := by
  unfold characterEnded; (repeat' split) <;> simp

@[simp] theorem assemble_frame (s : State) (st : AsmState) (b : FrameBuffer) :
    (assemble s st b).loader = s.loader ∧ (assemble s st b).inputs = s.inputs ∧ (assemble s st b).div = s.div ∧
    (assemble s st b).probes = s.probes ∧ (assemble s st b).peers = s.peers ∧ (assemble s st b).stage = s.stage ∧
    (assemble s st b).head = s.head ∧ (assemble s st b).arb = s.arb ∧ (assemble s st b).pumps = s.pumps ∧
    (assemble s st b).lamps = s.lamps ∧ (assemble s st b).gate = s.gate ∧ (assemble s st b).order = s.order ∧
    (assemble s st b).free = s.free ∧ (assemble s st b).pending = s.pending ∧ (assemble s st b).cfg = s.cfg ∧
    (assemble s st b).mode = s.mode := by
  unfold assemble; (repeat' split) <;> simp

@[simp] theorem lengthRefused_frame (s : State) :
    (lengthRefused s).loader = s.loader ∧ (lengthRefused s).inputs = s.inputs ∧ (lengthRefused s).div = s.div ∧
    (lengthRefused s).probes = s.probes ∧ (lengthRefused s).peers = s.peers ∧ (lengthRefused s).stage = s.stage ∧
    (lengthRefused s).head = s.head ∧ (lengthRefused s).arb = s.arb ∧ (lengthRefused s).pumps = s.pumps ∧
    (lengthRefused s).lamps = s.lamps ∧ (lengthRefused s).gate = s.gate ∧ (lengthRefused s).order = s.order ∧
    (lengthRefused s).free = s.free ∧ (lengthRefused s).pending = s.pending ∧ (lengthRefused s).cfg = s.cfg ∧
    (lengthRefused s).mode = s.mode := by
  unfold lengthRefused; (repeat' split) <;> simp

@[simp] theorem stopBitBad_frame (s : State) :
    (stopBitBad s).loader = s.loader ∧ (stopBitBad s).inputs = s.inputs ∧ (stopBitBad s).div = s.div ∧
    (stopBitBad s).probes = s.probes ∧ (stopBitBad s).peers = s.peers ∧ (stopBitBad s).stage = s.stage ∧
    (stopBitBad s).head = s.head ∧ (stopBitBad s).arb = s.arb ∧ (stopBitBad s).pumps = s.pumps ∧
    (stopBitBad s).lamps = s.lamps ∧ (stopBitBad s).gate = s.gate ∧ (stopBitBad s).order = s.order ∧
    (stopBitBad s).free = s.free ∧ (stopBitBad s).pending = s.pending ∧ (stopBitBad s).cfg = s.cfg ∧
    (stopBitBad s).mode = s.mode := by
  unfold stopBitBad; (repeat' split) <;> simp

@[simp] theorem idlePassed_frame (s : State) :
    (idlePassed s).loader = s.loader ∧ (idlePassed s).inputs = s.inputs ∧ (idlePassed s).div = s.div ∧
    (idlePassed s).probes = s.probes ∧ (idlePassed s).peers = s.peers ∧ (idlePassed s).stage = s.stage ∧
    (idlePassed s).head = s.head ∧ (idlePassed s).arb = s.arb ∧ (idlePassed s).pumps = s.pumps ∧
    (idlePassed s).lamps = s.lamps ∧ (idlePassed s).gate = s.gate ∧ (idlePassed s).order = s.order ∧
    (idlePassed s).free = s.free ∧ (idlePassed s).pending = s.pending ∧ (idlePassed s).cfg = s.cfg ∧
    (idlePassed s).mode = s.mode := by
  unfold idlePassed; (repeat' split) <;> simp

@[simp] theorem abandonFrame_frame (s : State) (st : AsmState) :
    (abandonFrame s st).loader = s.loader ∧ (abandonFrame s st).inputs = s.inputs ∧
    (abandonFrame s st).div = s.div ∧ (abandonFrame s st).probes = s.probes ∧ (abandonFrame s st).peers = s.peers ∧
    (abandonFrame s st).stage = s.stage ∧ (abandonFrame s st).head = s.head ∧ (abandonFrame s st).arb = s.arb ∧
    (abandonFrame s st).pumps = s.pumps ∧ (abandonFrame s st).lamps = s.lamps ∧ (abandonFrame s st).gate = s.gate ∧
    (abandonFrame s st).order = s.order ∧ (abandonFrame s st).free = s.free ∧
    (abandonFrame s st).pending = s.pending ∧ (abandonFrame s st).cfg = s.cfg ∧ (abandonFrame s st).mode = s.mode := by
  unfold abandonFrame; (repeat' split) <;> simp

@[simp] theorem countVerdict_frame (s : State) (v : Verdict) :
    (countVerdict s v).loader = s.loader ∧ (countVerdict s v).inputs = s.inputs ∧ (countVerdict s v).div = s.div ∧
    (countVerdict s v).probes = s.probes ∧ (countVerdict s v).peers = s.peers ∧
    (countVerdict s v).stage = s.stage ∧ (countVerdict s v).head = s.head ∧ (countVerdict s v).arb = s.arb ∧
    (countVerdict s v).pumps = s.pumps ∧ (countVerdict s v).lamps = s.lamps ∧ (countVerdict s v).gate = s.gate ∧
    (countVerdict s v).order = s.order ∧ (countVerdict s v).free = s.free ∧
    (countVerdict s v).pending = s.pending ∧ (countVerdict s v).cfg = s.cfg ∧ (countVerdict s v).mode = s.mode := by
  unfold countVerdict; (repeat' split) <;> simp

end Sys2Proof.Machine
end

