-- ==== Sys2Proof/Laws/Attempts.lean ====
section
/-! SUPPORT. The attempts that follow a command: what they leave alone, and when there are none; the step of the
block; small laws of counts, slots and entries. -/

namespace Sys2Proof.Machine

/-! ### Counts, slots, entries -/

theorem countUp_le (n k : Nat) : countUp n k ≤ 65535 := Nat.min_le_left _ _

@[simp] theorem TxSlots.get_set_same (q : TxSlots) (k : TxKind) (v : Option Nat) : (q.set k v).get k = v := by
  cases k <;> rfl

@[simp] theorem TxSlots.get_set_other (q : TxSlots) (k j : TxKind) (v : Option Nat) (h : j ≠ k) :
    (q.set k v).get j = q.get j := by
  cases k <;> cases j <;> first | rfl | exact absurd rfl h

@[simp] theorem StartTable.get_upd_same (t : StartTable) (r : Requester) (f : Entry → Entry) :
    (t.upd r f).get r = f (t.get r) := by cases r <;> rfl

@[simp] theorem StartTable.get_upd_other (t : StartTable) (r q : Requester) (f : Entry → Entry) (h : q ≠ r) :
    (t.upd r f).get q = t.get q := by
  cases r <;> cases q <;> first | rfl | exact absurd rfl h

/-! ### A quiet command calls for no attempt -/

/-- Two states between which no event of R98 and R105 lies. -/
structure Quiet (s t : State) : Prop where
  arb : t.arb = s.arb
  stage : t.stage.stage = s.stage.stage
  flight : doneInFlight t = doneInFlight s

theorem freshly_of_quiet {s t : State} (h : Quiet s t) (r : Requester) : freshly s t r = false := by
  simp [freshly, eligible, masked, entryOf, h.arb, h.stage]

theorem freshEntries_of_quiet {s t : State} (h : Quiet s t) : freshEntries s t = [] := by
  simp [freshEntries, byLevel, tieOrder, freshly_of_quiet h]

theorem selectionEvent_of_quiet {s t : State} (h : Quiet s t) : selectionEvent s t = false := by
  simp [selectionEvent, h.arb, h.flight, freshly_of_quiet h, tieOrder]

theorem attempt_of_quiet {s t : State} (h : Quiet s t) : attempt s t = t := by
  simp [attempt, freshEntries_of_quiet h, selectionEvent_of_quiet h, substituteAll]

/-- A command after which no event of R98 and R105 has happened ends with its own effect. -/
theorem finish_of_quiet {s t : State} (h : Quiet s t) : finish s t = t := by
  rw [finish, attempt_of_quiet h, attempt_of_quiet ⟨rfl, rfl, rfl⟩]

/-- Outside RUN no attempt is made where no entry is served. -/
theorem substituteAll_of_none {t : State} (h : servedOf t = none) (l : List Requester) : substituteAll l t = t := by
  induction l with
  | nil => rfl
  | cons r rest ih => simp [substituteAll, substitute, h, ih]

theorem attempt_outside_run {s t : State} (hn : servedOf t = none) (hr : inRun t = false) : attempt s t = t := by
  simp [attempt, substituteAll_of_none hn, select, selectionAllowed, hr]

theorem finish_outside_run {s t : State} (hn : servedOf t = none) (hr : inRun t = false) : finish s t = t := by
  simp [finish, attempt_outside_run hn hr]

/-! ### The step -/

theorem step_cons (s : State) (c : Instr) (rest : List Instr) :
    step (s.withPending (c :: rest)) = exec c (s.withPending rest) := rfl

theorem step_idle (s : State) (h : s.pending = []) : step s = .next (tick s) := by simp [step, h]

theorem withFetchWord_same (s : State) (nbits w : Nat) : s.withFetchWord nbits w = s := rfl

end Sys2Proof.Machine
end

