-- ==== Sys2Proof/Laws/Clock.lean ====
section
/-! SUPPORT. What one period of Fref does: each divider by what it has counted, the clocks that tick by the
conditions that the statements name, and the queue by the commands that fall due. -/

namespace Sys2Proof.Machine

/-- A divider counts from what is left over of its last count. -/
theorem divide_leftOver (n limit step : Nat) :
    divide n limit step =
      if limit ≤ leftOver n limit + step then (leftOver n limit + step - limit, true)
      else (leftOver n limit + step, false) := rfl

/-- The ms ticks where it ends. -/
theorem ticksOf_ms (s : State) : (ticksOf s).ms = true ↔ msEnds s := by
  simp only [ticksOf, divide_leftOver, msEnds]; split <;> simp_all

/-- The PWM clock ticks where it ends. -/
theorem ticksOf_pwm (s : State) : (ticksOf s).pwm = true ↔ pwmClockEnds s := by
  simp only [ticksOf, divide_leftOver, pwmClockEnds]; split <;> simp_all

/-- The link sample clock ticks where it ends. -/
theorem ticksOf_link (s : State) : (ticksOf s).link = true ↔ linkClockEnds s := by
  have h : ∀ n k : Nat, (if n ≤ k + 1 then (k + 1 - n, true) else (k + 1, false)).2 = true ↔ n ≤ k + 1 := by
    intro n k; split <;> simp_all
  simp only [ticksOf, divide_leftOver, linkClockEnds, linkClocked, linkDivider, inRun, Option.ne_none_iff_isSome,
    Bool.and_eq_true, Bool.or_eq_true, beq_iff_eq, h]

/-- Ranking changes the order of the due commands alone. -/
theorem mem_insertRanked (rank : Instr → Nat) (c x : Instr) (l : List Instr) :
    x ∈ insertRanked rank c l ↔ x = c ∨ x ∈ l := by
  induction l with
  | nil => simp [insertRanked]
  | cons y rest ih =>
    unfold insertRanked; split
    · simp
    · simp only [List.mem_cons, ih]; tauto

/-- Ranking keeps the commands. -/
theorem mem_ranked (rank : Instr → Nat) (x : Instr) (l : List Instr) : x ∈ ranked rank l ↔ x ∈ l := by
  induction l with
  | nil => simp [ranked]
  | cons y rest ih => simp only [ranked, List.foldr_cons, mem_insertRanked, List.mem_cons] at *; rw [ih]

/-- Ranking keeps the number of the commands. -/
theorem length_ranked (rank : Instr → Nat) (l : List Instr) : (ranked rank l).length = l.length := by
  have h : ∀ (c : Instr) (m : List Instr), (insertRanked rank c m).length = m.length + 1 := by
    intro c m
    induction m with
    | nil => rfl
    | cons y rest ih => unfold insertRanked; split <;> simp_all
  induction l with
  | nil => rfl
  | cons y rest ih => simp only [ranked, List.foldr_cons] at *; rw [h, ih, List.length_cons]

/-- What is queued is what was waiting and what fell due. -/
theorem mem_queueDue (s : State) (due : List Instr) (x : Instr) :
    x ∈ (queueDue s due).pending ↔ x ∈ s.pending ∨ x ∈ due := by
  unfold queueDue; split <;> simp [mem_ranked]

/-- The rest of a stopped character goes on by one sixteenth of a bit time, and at its end the line is free (R24,
R40). -/
theorem tickTail_cases (run : Bool) (l : Link) :
    (l.tail = none ∧ tickTail run l = l) ∨
    (∃ x, l.tail = some x ∧ x.position + 1 < 160 ∧
      tickTail run l = { l with tail := some { x with position := x.position + 1 } }) ∨
    (∃ x, l.tail = some x ∧ 160 ≤ x.position + 1 ∧ tickTail run l = { l with
      tail := none, idle := 0, idleCounting := run && l.rx == .look && l.onLine.isNone }) := by
  unfold tickTail
  cases h : l.tail with
  | none => exact .inl ⟨rfl, rfl⟩
  | some x =>
    by_cases g : x.position + 1 < Config.characterTime
    · refine .inr (.inl ⟨x, rfl, g, ?_⟩); simp [g]
    · refine .inr (.inr ⟨x, rfl, Nat.le_of_not_lt g, ?_⟩); simp [g]

end Sys2Proof.Machine
end

