-- ==== Sys2Proof/Laws/Entries.lean ====
section
/-! SUPPORT. What the operations on one start-table entry do: the entry after a change of one entry, and each
operation's fields, one lemma per field that a claim rests on. -/

namespace Sys2Proof.Machine

/-- An entry after a change of one entry. -/
theorem entryOf_onEntry (s : State) (r q : Requester) (f : Entry → Entry) :
    entryOf (onEntry s r f) q = if r = q then f (entryOf s q) else entryOf s q := by
  cases r <;> cases q <;> rfl

/-- The entries rest on the start table alone. -/
theorem entryOf_congr {s t : State} (h : s.arb.table = t.arb.table) (r : Requester) : entryOf s r = entryOf t r := by
  simp only [entryOf, h]

section
variable (e : Entry) (q : Request)
@[simp] theorem makePending_pending : (makePending q e).pending = true := rfl
@[simp] theorem makePending_request : (makePending q e).request = some q := rfl
@[simp] theorem makePending_served : (makePending q e).served = e.served := rfl
@[simp] theorem makePending_mask : (makePending q e).mask = e.mask := rfl
@[simp] theorem makePending_posts :
    (makePending q e).posts = if e.pending then e.posts else e.posts + 1 := rfl
@[simp] theorem serveEntry_pending : (serveEntry e).pending = false := rfl
@[simp] theorem serveEntry_served : (serveEntry e).served = true := rfl
@[simp] theorem serveEntry_request : (serveEntry e).request = e.request := rfl
@[simp] theorem endEntry_pending : (endEntry e).pending = false := rfl
@[simp] theorem endEntry_served : (endEntry e).served = false := rfl
@[simp] theorem endEntry_request : (endEntry e).request = none := rfl
@[simp] theorem returnEntry_pending : (returnEntry e).pending = true := rfl
@[simp] theorem returnEntry_served : (returnEntry e).served = false := rfl
@[simp] theorem clearPending_pending : (clearPending e).pending = false := rfl
@[simp] theorem clearPending_served : (clearPending e).served = e.served := rfl
@[simp] theorem discardHeld_held : (discardHeld e).held = none := rfl
@[simp] theorem discardHeld_pending : (discardHeld e).pending = e.pending := rfl
@[simp] theorem discardHeld_request : (discardHeld e).request = e.request := rfl
@[simp] theorem discardHeld_served : (discardHeld e).served = e.served := rfl
@[simp] theorem serveEntry_held : (serveEntry e).held = e.held := rfl
@[simp] theorem endEntry_held : (endEntry e).held = none := rfl
@[simp] theorem returnEntry_held : (returnEntry e).held = none := rfl
@[simp] theorem holdForBudget_served : (holdForBudget e).served = e.served := rfl
@[simp] theorem holdForBudget_pending : (holdForBudget e).pending = e.pending := rfl
end

/-- A returned entry carries the request it held, or else the one it was served for (R95, R101). -/
theorem returnEntry_request (e : Entry) : (returnEntry e).request = e.held.or e.request := by
  unfold returnEntry; cases e.held <;> rfl

/-- The entry that loses the mark is served no more, and is pending unless it was cancelled and holds nothing
(R105). -/
theorem unserve_cases (cancelled : Bool) (e : Entry) :
    (unserve cancelled e).served = false ∧
    (unserve cancelled e).pending = !(cancelled && e.held.isNone) := by
  unfold unserve; cases cancelled <;> cases e.held <;> simp

/-- An entry whose claim its requester has cancelled holds no request: it has ended, or stays served to the report of
its CLAIM with what it held discarded (R95, R106). -/
theorem cancelServed_held (s : State) (r : Requester) (h : s.arb.claim ≠ .idle) :
    (entryOf (cancelServed s r) r).held = none := by
  have step : ∀ (u : State) (f : Entry → Entry), (∀ e, (f e).held = none) → (entryOf (onEntry u r f) r).held = none :=
    fun u f hf => by rw [entryOf_onEntry, if_pos rfl]; exact hf _
  unfold cancelServed
  split
  · exact absurd ‹_› h
  · split
    · exact step _ _ endEntry_held
    · exact step _ _ discardHeld_held
  · exact step _ _ endEntry_held
  · exact step _ _ endEntry_held

/-- A drop never serves an entry and never makes one pending (R93, R95). -/
theorem dropTo_cases (e : Entry) :
    (dropTo e).served = e.served ∧ ((dropTo e).pending = true → e.pending = true) := by
  unfold dropTo; split
  · exact ⟨rfl, id⟩
  · split <;> simp_all

end Sys2Proof.Machine
end

