-- ==== Sys2Proof/Laws/OrderFrames.lean ====
section
/-! SUPPORT. The frame of the order operations, of the arrivals and of the entries to RUN and FALLBACK: what each
leaves unchanged. -/

namespace Sys2Proof.Machine

set_option linter.unusedTactic false
set_option linter.unreachableTactic false
set_option linter.unnecessarySeqFocus false

@[simp] theorem closeFrom_frame (s : State) :
    (closeFrom s).loader = s.loader ∧ (closeFrom s).inputs = s.inputs ∧ (closeFrom s).div = s.div ∧
    (closeFrom s).probes = s.probes ∧ (closeFrom s).peers = s.peers ∧ (closeFrom s).stage = s.stage ∧
    (closeFrom s).head = s.head ∧ (closeFrom s).pumps = s.pumps ∧ (closeFrom s).order = s.order ∧
    (closeFrom s).free = s.free ∧ (closeFrom s).pending = s.pending ∧ (closeFrom s).cfg = s.cfg ∧
    (closeFrom s).mode = s.mode := by
  unfold closeFrom; (repeat' split) <;> simp <;> (repeat' split) <;> simp

@[simp] theorem actClose_frame (s : State) :
    (actClose s).loader = s.loader ∧ (actClose s).inputs = s.inputs ∧ (actClose s).div = s.div ∧
    (actClose s).probes = s.probes ∧ (actClose s).peers = s.peers ∧ (actClose s).stage = s.stage ∧
    (actClose s).head = s.head ∧ (actClose s).pumps = s.pumps ∧ (actClose s).order = s.order ∧
    (actClose s).free = s.free ∧ (actClose s).pending = s.pending ∧ (actClose s).cfg = s.cfg ∧
    (actClose s).mode = s.mode := by
  unfold actClose; (repeat' split) <;> simp <;> (repeat' split) <;> simp

@[simp] theorem actOpen_frame (s : State) :
    (actOpen s).loader = s.loader ∧ (actOpen s).inputs = s.inputs ∧ (actOpen s).div = s.div ∧
    (actOpen s).probes = s.probes ∧ (actOpen s).peers = s.peers ∧ (actOpen s).stage = s.stage ∧
    (actOpen s).head = s.head ∧ (actOpen s).pumps = s.pumps ∧ (actOpen s).order = s.order ∧
    (actOpen s).free = s.free ∧ (actOpen s).pending = s.pending ∧ (actOpen s).cfg = s.cfg ∧
    (actOpen s).mode = s.mode := by
  unfold actOpen; (repeat' split) <;> simp <;> (repeat' split) <;> simp

@[simp] theorem actHold_frame (s : State) :
    (actHold s).loader = s.loader ∧ (actHold s).inputs = s.inputs ∧ (actHold s).div = s.div ∧
    (actHold s).probes = s.probes ∧ (actHold s).peers = s.peers ∧ (actHold s).stage = s.stage ∧
    (actHold s).head = s.head ∧ (actHold s).pumps = s.pumps ∧ (actHold s).order = s.order ∧
    (actHold s).free = s.free ∧ (actHold s).pending = s.pending ∧ (actHold s).cfg = s.cfg ∧
    (actHold s).mode = s.mode := by
  unfold actHold; (repeat' split) <;> simp <;> (repeat' split) <;> simp

@[simp] theorem actRelease_frame (s : State) :
    (actRelease s).loader = s.loader ∧ (actRelease s).inputs = s.inputs ∧ (actRelease s).div = s.div ∧
    (actRelease s).probes = s.probes ∧ (actRelease s).peers = s.peers ∧ (actRelease s).stage = s.stage ∧
    (actRelease s).head = s.head ∧ (actRelease s).pumps = s.pumps ∧ (actRelease s).order = s.order ∧
    (actRelease s).free = s.free ∧ (actRelease s).pending = s.pending ∧ (actRelease s).cfg = s.cfg ∧
    (actRelease s).mode = s.mode := by
  unfold actRelease; (repeat' split) <;> simp <;> (repeat' split) <;> simp

@[simp] theorem takeGateClose_frame (s : State) (a : Half) :
    (takeGateClose a s).loader = s.loader ∧ (takeGateClose a s).inputs = s.inputs ∧
    (takeGateClose a s).div = s.div ∧ (takeGateClose a s).probes = s.probes ∧ (takeGateClose a s).peers = s.peers ∧
    (takeGateClose a s).stage = s.stage ∧ (takeGateClose a s).head = s.head ∧ (takeGateClose a s).pumps = s.pumps ∧
    (takeGateClose a s).free = s.free ∧ (takeGateClose a s).pending = s.pending ∧ (takeGateClose a s).cfg = s.cfg ∧
    (takeGateClose a s).mode = s.mode := by
  unfold takeGateClose gateOrder; (repeat' split) <;> simp <;> (repeat' split) <;> simp

@[simp] theorem takeGateOpen_frame (s : State) (a : Half) :
    (takeGateOpen a s).loader = s.loader ∧ (takeGateOpen a s).inputs = s.inputs ∧ (takeGateOpen a s).div = s.div ∧
    (takeGateOpen a s).probes = s.probes ∧ (takeGateOpen a s).peers = s.peers ∧
    (takeGateOpen a s).stage = s.stage ∧ (takeGateOpen a s).head = s.head ∧ (takeGateOpen a s).pumps = s.pumps ∧
    (takeGateOpen a s).free = s.free ∧ (takeGateOpen a s).pending = s.pending ∧ (takeGateOpen a s).cfg = s.cfg ∧
    (takeGateOpen a s).mode = s.mode := by
  unfold takeGateOpen gateOrder; (repeat' split) <;> simp <;> (repeat' split) <;> simp

@[simp] theorem takeGateHold_frame (s : State) (a : Half) :
    (takeGateHold a s).loader = s.loader ∧ (takeGateHold a s).inputs = s.inputs ∧ (takeGateHold a s).div = s.div ∧
    (takeGateHold a s).probes = s.probes ∧ (takeGateHold a s).peers = s.peers ∧
    (takeGateHold a s).stage = s.stage ∧ (takeGateHold a s).head = s.head ∧ (takeGateHold a s).pumps = s.pumps ∧
    (takeGateHold a s).free = s.free ∧ (takeGateHold a s).pending = s.pending ∧ (takeGateHold a s).cfg = s.cfg ∧
    (takeGateHold a s).mode = s.mode := by
  unfold takeGateHold gateOrder; (repeat' split) <;> simp <;> (repeat' split) <;> simp

@[simp] theorem takeGateRelease_frame (s : State) (a : Half) :
    (takeGateRelease a s).loader = s.loader ∧ (takeGateRelease a s).inputs = s.inputs ∧
    (takeGateRelease a s).div = s.div ∧ (takeGateRelease a s).probes = s.probes ∧
    (takeGateRelease a s).peers = s.peers ∧ (takeGateRelease a s).stage = s.stage ∧
    (takeGateRelease a s).head = s.head ∧ (takeGateRelease a s).pumps = s.pumps ∧
    (takeGateRelease a s).free = s.free ∧ (takeGateRelease a s).pending = s.pending ∧
    (takeGateRelease a s).cfg = s.cfg ∧ (takeGateRelease a s).mode = s.mode := by
  unfold takeGateRelease gateOrder; (repeat' split) <;> simp <;> (repeat' split) <;> simp

@[simp] theorem takeClearGate_frame (s : State) (a : Half) :
    (takeClearGate a s).loader = s.loader ∧ (takeClearGate a s).inputs = s.inputs ∧
    (takeClearGate a s).div = s.div ∧ (takeClearGate a s).probes = s.probes ∧ (takeClearGate a s).peers = s.peers ∧
    (takeClearGate a s).stage = s.stage ∧ (takeClearGate a s).head = s.head ∧ (takeClearGate a s).pumps = s.pumps ∧
    (takeClearGate a s).free = s.free ∧ (takeClearGate a s).pending = s.pending ∧ (takeClearGate a s).cfg = s.cfg ∧
    (takeClearGate a s).mode = s.mode := by
  unfold takeClearGate; (repeat' split) <;> simp <;> (repeat' split) <;> simp

@[simp] theorem actInhibit_frame (s : State) (p : PumpId) :
    (actInhibit s p).loader = s.loader ∧ (actInhibit s p).inputs = s.inputs ∧ (actInhibit s p).div = s.div ∧
    (actInhibit s p).probes = s.probes ∧ (actInhibit s p).peers = s.peers ∧ (actInhibit s p).stage = s.stage ∧
    (actInhibit s p).head = s.head ∧ (actInhibit s p).lamps = s.lamps ∧ (actInhibit s p).gate = s.gate ∧
    (actInhibit s p).order = s.order ∧ (actInhibit s p).free = s.free ∧ (actInhibit s p).pending = s.pending ∧
    (actInhibit s p).cfg = s.cfg ∧ (actInhibit s p).mode = s.mode := by
  unfold actInhibit; (repeat' split) <;> simp <;> (repeat' split) <;> simp

@[simp] theorem actReleasePump_frame (s : State) (p : PumpId) :
    (actReleasePump s p).loader = s.loader ∧ (actReleasePump s p).inputs = s.inputs ∧
    (actReleasePump s p).div = s.div ∧ (actReleasePump s p).probes = s.probes ∧
    (actReleasePump s p).peers = s.peers ∧ (actReleasePump s p).stage = s.stage ∧
    (actReleasePump s p).head = s.head ∧ (actReleasePump s p).lamps = s.lamps ∧
    (actReleasePump s p).gate = s.gate ∧ (actReleasePump s p).order = s.order ∧
    (actReleasePump s p).free = s.free ∧ (actReleasePump s p).pending = s.pending ∧
    (actReleasePump s p).cfg = s.cfg ∧ (actReleasePump s p).mode = s.mode := by
  unfold actReleasePump; (repeat' split) <;> simp <;> (repeat' split) <;> simp

@[simp] theorem actClearPump_frame (s : State) (p : PumpId) :
    (actClearPump s p).loader = s.loader ∧ (actClearPump s p).inputs = s.inputs ∧ (actClearPump s p).div = s.div ∧
    (actClearPump s p).probes = s.probes ∧ (actClearPump s p).peers = s.peers ∧
    (actClearPump s p).stage = s.stage ∧ (actClearPump s p).head = s.head ∧ (actClearPump s p).lamps = s.lamps ∧
    (actClearPump s p).gate = s.gate ∧ (actClearPump s p).order = s.order ∧ (actClearPump s p).free = s.free ∧
    (actClearPump s p).pending = s.pending ∧ (actClearPump s p).cfg = s.cfg ∧ (actClearPump s p).mode = s.mode := by
  unfold actClearPump; (repeat' split) <;> simp <;> (repeat' split) <;> simp

@[simp] theorem takePumpInhibit_frame (s : State) (a : Half) :
    (takePumpInhibit a s).loader = s.loader ∧ (takePumpInhibit a s).inputs = s.inputs ∧
    (takePumpInhibit a s).div = s.div ∧ (takePumpInhibit a s).probes = s.probes ∧
    (takePumpInhibit a s).peers = s.peers ∧ (takePumpInhibit a s).stage = s.stage ∧
    (takePumpInhibit a s).lamps = s.lamps ∧ (takePumpInhibit a s).gate = s.gate ∧
    (takePumpInhibit a s).free = s.free ∧ (takePumpInhibit a s).pending = s.pending ∧
    (takePumpInhibit a s).cfg = s.cfg ∧ (takePumpInhibit a s).mode = s.mode := by
  unfold takePumpInhibit pumpOrder actedOn; (repeat' split) <;> simp <;> (repeat' split) <;> simp

@[simp] theorem takePumpRelease_frame (s : State) (a : Half) :
    (takePumpRelease a s).loader = s.loader ∧ (takePumpRelease a s).inputs = s.inputs ∧
    (takePumpRelease a s).div = s.div ∧ (takePumpRelease a s).probes = s.probes ∧
    (takePumpRelease a s).peers = s.peers ∧ (takePumpRelease a s).stage = s.stage ∧
    (takePumpRelease a s).lamps = s.lamps ∧ (takePumpRelease a s).gate = s.gate ∧
    (takePumpRelease a s).free = s.free ∧ (takePumpRelease a s).pending = s.pending ∧
    (takePumpRelease a s).cfg = s.cfg ∧ (takePumpRelease a s).mode = s.mode := by
  unfold takePumpRelease pumpOrder actedOn; (repeat' split) <;> simp <;> (repeat' split) <;> simp

@[simp] theorem takeClearPump_frame (s : State) (a : Half) :
    (takeClearPump a s).loader = s.loader ∧ (takeClearPump a s).inputs = s.inputs ∧
    (takeClearPump a s).div = s.div ∧ (takeClearPump a s).probes = s.probes ∧ (takeClearPump a s).peers = s.peers ∧
    (takeClearPump a s).stage = s.stage ∧ (takeClearPump a s).lamps = s.lamps ∧ (takeClearPump a s).gate = s.gate ∧
    (takeClearPump a s).free = s.free ∧ (takeClearPump a s).pending = s.pending ∧ (takeClearPump a s).cfg = s.cfg ∧
    (takeClearPump a s).mode = s.mode := by
  unfold takeClearPump pumpOrder actedOn; (repeat' split) <;> simp <;> (repeat' split) <;> simp

@[simp] theorem clearFaultTaken_frame (s : State) (a : Half) :
    (clearFaultTaken a s).loader = s.loader ∧ (clearFaultTaken a s).inputs = s.inputs ∧
    (clearFaultTaken a s).div = s.div ∧ (clearFaultTaken a s).probes = s.probes ∧
    (clearFaultTaken a s).peers = s.peers ∧ (clearFaultTaken a s).stage = s.stage ∧
    (clearFaultTaken a s).free = s.free ∧ (clearFaultTaken a s).pending = s.pending ∧
    (clearFaultTaken a s).cfg = s.cfg ∧ (clearFaultTaken a s).mode = s.mode := by
  unfold clearFaultTaken orderTaken gateOrderTaken; (repeat' split) <;> simp

@[simp] theorem takeCounters_frame (s : State) (a : Half) :
    (takeCounters a s).loader = s.loader ∧ (takeCounters a s).inputs = s.inputs ∧ (takeCounters a s).div = s.div ∧
    (takeCounters a s).stage = s.stage ∧ (takeCounters a s).head = s.head ∧ (takeCounters a s).arb = s.arb ∧
    (takeCounters a s).pumps = s.pumps ∧ (takeCounters a s).lamps = s.lamps ∧ (takeCounters a s).gate = s.gate ∧
    (takeCounters a s).free = s.free ∧ (takeCounters a s).pending = s.pending ∧ (takeCounters a s).cfg = s.cfg ∧
    (takeCounters a s).mode = s.mode := by
  unfold takeCounters; (repeat' split) <;> simp <;> (repeat' split) <;> simp

@[simp] theorem takeLampTest_frame (s : State) (a : Half) :
    (takeLampTest a s).loader = s.loader ∧ (takeLampTest a s).inputs = s.inputs ∧ (takeLampTest a s).div = s.div ∧
    (takeLampTest a s).probes = s.probes ∧ (takeLampTest a s).peers = s.peers ∧
    (takeLampTest a s).stage = s.stage ∧ (takeLampTest a s).head = s.head ∧ (takeLampTest a s).arb = s.arb ∧
    (takeLampTest a s).pumps = s.pumps ∧ (takeLampTest a s).gate = s.gate ∧ (takeLampTest a s).free = s.free ∧
    (takeLampTest a s).pending = s.pending ∧ (takeLampTest a s).cfg = s.cfg ∧ (takeLampTest a s).mode = s.mode := by
  unfold takeLampTest; (repeat' split) <;> simp <;> (repeat' split) <;> simp

@[simp] theorem takeUnknown_frame (s : State) (c : Byte) (a : Half) :
    (takeUnknown c a s).loader = s.loader ∧ (takeUnknown c a s).inputs = s.inputs ∧
    (takeUnknown c a s).div = s.div ∧ (takeUnknown c a s).probes = s.probes ∧ (takeUnknown c a s).peers = s.peers ∧
    (takeUnknown c a s).stage = s.stage ∧ (takeUnknown c a s).head = s.head ∧ (takeUnknown c a s).arb = s.arb ∧
    (takeUnknown c a s).pumps = s.pumps ∧ (takeUnknown c a s).lamps = s.lamps ∧ (takeUnknown c a s).gate = s.gate ∧
    (takeUnknown c a s).free = s.free ∧ (takeUnknown c a s).pending = s.pending ∧ (takeUnknown c a s).cfg = s.cfg ∧
    (takeUnknown c a s).mode = s.mode := by
  unfold takeUnknown; (repeat' split) <;> simp <;> (repeat' split) <;> simp

@[simp] theorem restartLamps_frame (s : State) :
    (restartLamps s).loader = s.loader ∧ (restartLamps s).inputs = s.inputs ∧ (restartLamps s).div = s.div ∧
    (restartLamps s).probes = s.probes ∧ (restartLamps s).link = s.link ∧ (restartLamps s).peers = s.peers ∧
    (restartLamps s).stage = s.stage ∧ (restartLamps s).head = s.head ∧ (restartLamps s).arb = s.arb ∧
    (restartLamps s).pumps = s.pumps ∧ (restartLamps s).gate = s.gate ∧ (restartLamps s).order = s.order ∧
    (restartLamps s).free = s.free ∧ (restartLamps s).pending = s.pending ∧ (restartLamps s).cfg = s.cfg ∧
    (restartLamps s).mode = s.mode := by
  unfold restartLamps; (repeat' split) <;> simp <;> (repeat' split) <;> simp

@[simp] theorem restartGate_frame (s : State) :
    (restartGate s).loader = s.loader ∧ (restartGate s).inputs = s.inputs ∧ (restartGate s).div = s.div ∧
    (restartGate s).probes = s.probes ∧ (restartGate s).link = s.link ∧ (restartGate s).peers = s.peers ∧
    (restartGate s).stage = s.stage ∧ (restartGate s).head = s.head ∧ (restartGate s).arb = s.arb ∧
    (restartGate s).pumps = s.pumps ∧ (restartGate s).lamps = s.lamps ∧ (restartGate s).order = s.order ∧
    (restartGate s).free = s.free ∧ (restartGate s).pending = s.pending ∧ (restartGate s).cfg = s.cfg ∧
    (restartGate s).mode = s.mode := by
  unfold restartGate; (repeat' split) <;> simp <;> (repeat' split) <;> simp

@[simp] theorem statusTaken_frame (s : State) (k : Nat) (b : List Byte) :
    (statusTaken s k b).loader = s.loader ∧ (statusTaken s k b).inputs = s.inputs ∧
    (statusTaken s k b).div = s.div ∧ (statusTaken s k b).probes = s.probes ∧ (statusTaken s k b).head = s.head ∧
    (statusTaken s k b).order = s.order ∧ (statusTaken s k b).free = s.free ∧
    (statusTaken s k b).pending = s.pending ∧ (statusTaken s k b).cfg = s.cfg ∧ (statusTaken s k b).mode = s.mode := by
  unfold statusTaken; (repeat' split) <;> simp <;> (repeat' split) <;> simp

@[simp] theorem claimTaken_frame (s : State) (k : Nat) (b : List Byte) :
    (claimTaken s k b).loader = s.loader ∧ (claimTaken s k b).inputs = s.inputs ∧ (claimTaken s k b).div = s.div ∧
    (claimTaken s k b).probes = s.probes ∧ (claimTaken s k b).stage = s.stage ∧ (claimTaken s k b).head = s.head ∧
    (claimTaken s k b).gate = s.gate ∧ (claimTaken s k b).order = s.order ∧ (claimTaken s k b).free = s.free ∧
    (claimTaken s k b).pending = s.pending ∧ (claimTaken s k b).cfg = s.cfg ∧ (claimTaken s k b).mode = s.mode := by
  unfold claimTaken; (repeat' split) <;> simp <;> (repeat' split) <;> simp

@[simp] theorem busyTaken_frame (s : State) (k : Nat) (b : List Byte) :
    (busyTaken s k b).loader = s.loader ∧ (busyTaken s k b).inputs = s.inputs ∧ (busyTaken s k b).div = s.div ∧
    (busyTaken s k b).probes = s.probes ∧ (busyTaken s k b).stage = s.stage ∧ (busyTaken s k b).head = s.head ∧
    (busyTaken s k b).gate = s.gate ∧ (busyTaken s k b).order = s.order ∧ (busyTaken s k b).free = s.free ∧
    (busyTaken s k b).pending = s.pending ∧ (busyTaken s k b).cfg = s.cfg ∧ (busyTaken s k b).mode = s.mode := by
  unfold busyTaken; (repeat' split) <;> simp <;> (repeat' split) <;> simp

@[simp] theorem doneTaken_frame (s : State) (k : Nat) :
    (doneTaken s k).loader = s.loader ∧ (doneTaken s k).inputs = s.inputs ∧ (doneTaken s k).div = s.div ∧
    (doneTaken s k).probes = s.probes ∧ (doneTaken s k).stage = s.stage ∧ (doneTaken s k).head = s.head ∧
    (doneTaken s k).pumps = s.pumps ∧ (doneTaken s k).lamps = s.lamps ∧ (doneTaken s k).gate = s.gate ∧
    (doneTaken s k).order = s.order ∧ (doneTaken s k).free = s.free ∧ (doneTaken s k).pending = s.pending ∧
    (doneTaken s k).cfg = s.cfg ∧ (doneTaken s k).mode = s.mode := by
  unfold doneTaken; (repeat' split) <;> simp <;> (repeat' split) <;> simp

@[simp] theorem linkEnterRun_frame (s : State) :
    (linkEnterRun s).loader = s.loader ∧ (linkEnterRun s).inputs = s.inputs ∧ (linkEnterRun s).div = s.div ∧
    (linkEnterRun s).probes = s.probes ∧ (linkEnterRun s).peers = s.peers ∧ (linkEnterRun s).stage = s.stage ∧
    (linkEnterRun s).head = s.head ∧ (linkEnterRun s).arb = s.arb ∧ (linkEnterRun s).pumps = s.pumps ∧
    (linkEnterRun s).lamps = s.lamps ∧ (linkEnterRun s).gate = s.gate ∧ (linkEnterRun s).order = s.order ∧
    (linkEnterRun s).free = s.free ∧ (linkEnterRun s).pending = s.pending ∧ (linkEnterRun s).cfg = s.cfg ∧
    (linkEnterRun s).mode = s.mode := by
  unfold linkEnterRun; (repeat' split) <;> simp <;> (repeat' split) <;> simp

@[simp] theorem headEnterRun_frame (s : State) :
    (headEnterRun s).loader = s.loader ∧ (headEnterRun s).inputs = s.inputs ∧ (headEnterRun s).div = s.div ∧
    (headEnterRun s).probes = s.probes ∧ (headEnterRun s).link = s.link ∧ (headEnterRun s).peers = s.peers ∧
    (headEnterRun s).stage = s.stage ∧ (headEnterRun s).arb = s.arb ∧ (headEnterRun s).pumps = s.pumps ∧
    (headEnterRun s).lamps = s.lamps ∧ (headEnterRun s).gate = s.gate ∧ (headEnterRun s).order = s.order ∧
    (headEnterRun s).free = s.free ∧ (headEnterRun s).pending = s.pending ∧ (headEnterRun s).cfg = s.cfg ∧
    (headEnterRun s).mode = s.mode := by
  unfold headEnterRun; (repeat' split) <;> simp <;> (repeat' split) <;> simp

@[simp] theorem probesEnterRun_frame (s : State) :
    (probesEnterRun s).loader = s.loader ∧ (probesEnterRun s).inputs = s.inputs ∧ (probesEnterRun s).div = s.div ∧
    (probesEnterRun s).link = s.link ∧ (probesEnterRun s).peers = s.peers ∧ (probesEnterRun s).stage = s.stage ∧
    (probesEnterRun s).head = s.head ∧ (probesEnterRun s).arb = s.arb ∧ (probesEnterRun s).pumps = s.pumps ∧
    (probesEnterRun s).lamps = s.lamps ∧ (probesEnterRun s).gate = s.gate ∧ (probesEnterRun s).order = s.order ∧
    (probesEnterRun s).free = s.free ∧ (probesEnterRun s).pending = s.pending ∧ (probesEnterRun s).cfg = s.cfg ∧
    (probesEnterRun s).mode = s.mode := by
  unfold probesEnterRun; (repeat' split) <;> simp <;> (repeat' split) <;> simp

@[simp] theorem peersEnterRun_frame (s : State) :
    (peersEnterRun s).loader = s.loader ∧ (peersEnterRun s).inputs = s.inputs ∧ (peersEnterRun s).div = s.div ∧
    (peersEnterRun s).probes = s.probes ∧ (peersEnterRun s).stage = s.stage ∧ (peersEnterRun s).head = s.head ∧
    (peersEnterRun s).arb = s.arb ∧ (peersEnterRun s).pumps = s.pumps ∧ (peersEnterRun s).lamps = s.lamps ∧
    (peersEnterRun s).gate = s.gate ∧ (peersEnterRun s).order = s.order ∧ (peersEnterRun s).free = s.free ∧
    (peersEnterRun s).pending = s.pending ∧ (peersEnterRun s).cfg = s.cfg ∧ (peersEnterRun s).mode = s.mode := by
  unfold peersEnterRun; (repeat' split) <;> simp <;> (repeat' split) <;> simp

@[simp] theorem arbiterEnterRun_frame (s : State) :
    (arbiterEnterRun s).loader = s.loader ∧ (arbiterEnterRun s).inputs = s.inputs ∧
    (arbiterEnterRun s).div = s.div ∧ (arbiterEnterRun s).probes = s.probes ∧ (arbiterEnterRun s).link = s.link ∧
    (arbiterEnterRun s).peers = s.peers ∧ (arbiterEnterRun s).stage = s.stage ∧ (arbiterEnterRun s).head = s.head ∧
    (arbiterEnterRun s).pumps = s.pumps ∧ (arbiterEnterRun s).lamps = s.lamps ∧ (arbiterEnterRun s).gate = s.gate ∧
    (arbiterEnterRun s).order = s.order ∧ (arbiterEnterRun s).free = s.free ∧
    (arbiterEnterRun s).pending = s.pending ∧ (arbiterEnterRun s).cfg = s.cfg ∧ (arbiterEnterRun s).mode = s.mode := by
  unfold arbiterEnterRun; (repeat' split) <;> simp <;> (repeat' split) <;> simp

@[simp] theorem pumpEnterRun_frame (s : State) (p : PumpId) :
    (pumpEnterRun s p).loader = s.loader ∧ (pumpEnterRun s p).inputs = s.inputs ∧ (pumpEnterRun s p).div = s.div ∧
    (pumpEnterRun s p).probes = s.probes ∧ (pumpEnterRun s p).link = s.link ∧ (pumpEnterRun s p).peers = s.peers ∧
    (pumpEnterRun s p).stage = s.stage ∧ (pumpEnterRun s p).head = s.head ∧ (pumpEnterRun s p).arb = s.arb ∧
    (pumpEnterRun s p).lamps = s.lamps ∧ (pumpEnterRun s p).gate = s.gate ∧ (pumpEnterRun s p).order = s.order ∧
    (pumpEnterRun s p).free = s.free ∧ (pumpEnterRun s p).pending = s.pending ∧ (pumpEnterRun s p).cfg = s.cfg ∧
    (pumpEnterRun s p).mode = s.mode := by
  unfold pumpEnterRun; (repeat' split) <;> simp <;> (repeat' split) <;> simp

@[simp] theorem judgeLeftRunning_frame (s : State) (p : PumpId) :
    (judgeLeftRunning s p).loader = s.loader ∧ (judgeLeftRunning s p).inputs = s.inputs ∧
    (judgeLeftRunning s p).div = s.div ∧ (judgeLeftRunning s p).probes = s.probes ∧
    (judgeLeftRunning s p).peers = s.peers ∧ (judgeLeftRunning s p).stage = s.stage ∧
    (judgeLeftRunning s p).head = s.head ∧ (judgeLeftRunning s p).lamps = s.lamps ∧
    (judgeLeftRunning s p).gate = s.gate ∧ (judgeLeftRunning s p).order = s.order ∧
    (judgeLeftRunning s p).free = s.free ∧ (judgeLeftRunning s p).pending = s.pending ∧
    (judgeLeftRunning s p).cfg = s.cfg ∧ (judgeLeftRunning s p).mode = s.mode := by
  unfold judgeLeftRunning; split <;> simp

@[simp] theorem pumpsEnterRun_frame (s : State) :
    (pumpsEnterRun s).loader = s.loader ∧ (pumpsEnterRun s).inputs = s.inputs ∧ (pumpsEnterRun s).div = s.div ∧
    (pumpsEnterRun s).probes = s.probes ∧ (pumpsEnterRun s).peers = s.peers ∧
    (pumpsEnterRun s).stage = s.stage ∧ (pumpsEnterRun s).head = s.head ∧
    (pumpsEnterRun s).lamps = s.lamps ∧ (pumpsEnterRun s).gate = s.gate ∧ (pumpsEnterRun s).order = s.order ∧
    (pumpsEnterRun s).free = s.free ∧ (pumpsEnterRun s).pending = s.pending ∧ (pumpsEnterRun s).cfg = s.cfg ∧
    (pumpsEnterRun s).mode = s.mode := by
  unfold pumpsEnterRun; simp

@[simp] theorem lampsEnterRun_frame (s : State) :
    (lampsEnterRun s).loader = s.loader ∧ (lampsEnterRun s).inputs = s.inputs ∧ (lampsEnterRun s).div = s.div ∧
    (lampsEnterRun s).probes = s.probes ∧ (lampsEnterRun s).link = s.link ∧ (lampsEnterRun s).peers = s.peers ∧
    (lampsEnterRun s).stage = s.stage ∧ (lampsEnterRun s).head = s.head ∧ (lampsEnterRun s).pumps = s.pumps ∧
    (lampsEnterRun s).gate = s.gate ∧ (lampsEnterRun s).order = s.order ∧ (lampsEnterRun s).free = s.free ∧
    (lampsEnterRun s).pending = s.pending ∧ (lampsEnterRun s).cfg = s.cfg ∧ (lampsEnterRun s).mode = s.mode := by
  unfold lampsEnterRun; (repeat' split) <;> simp <;> (repeat' split) <;> simp

@[simp] theorem loopsEnterRun_frame (s : State) :
    (loopsEnterRun s).loader = s.loader ∧ (loopsEnterRun s).inputs = s.inputs ∧ (loopsEnterRun s).div = s.div ∧
    (loopsEnterRun s).probes = s.probes ∧ (loopsEnterRun s).link = s.link ∧ (loopsEnterRun s).peers = s.peers ∧
    (loopsEnterRun s).stage = s.stage ∧ (loopsEnterRun s).head = s.head ∧ (loopsEnterRun s).arb = s.arb ∧
    (loopsEnterRun s).pumps = s.pumps ∧ (loopsEnterRun s).lamps = s.lamps ∧ (loopsEnterRun s).order = s.order ∧
    (loopsEnterRun s).free = s.free ∧ (loopsEnterRun s).pending = s.pending ∧ (loopsEnterRun s).cfg = s.cfg ∧
    (loopsEnterRun s).mode = s.mode := by
  unfold loopsEnterRun; (repeat' split) <;> simp <;> (repeat' split) <;> simp

@[simp] theorem gateEnterRun_frame (s : State) :
    (gateEnterRun s).loader = s.loader ∧ (gateEnterRun s).inputs = s.inputs ∧ (gateEnterRun s).div = s.div ∧
    (gateEnterRun s).probes = s.probes ∧ (gateEnterRun s).peers = s.peers ∧ (gateEnterRun s).stage = s.stage ∧
    (gateEnterRun s).head = s.head ∧ (gateEnterRun s).pumps = s.pumps ∧ (gateEnterRun s).order = s.order ∧
    (gateEnterRun s).free = s.free ∧ (gateEnterRun s).pending = s.pending ∧ (gateEnterRun s).cfg = s.cfg ∧
    (gateEnterRun s).mode = s.mode := by
  unfold gateEnterRun; (repeat' split) <;> simp <;> (repeat' split) <;> simp

@[simp] theorem supplyEnterRun_frame (s : State) :
    (supplyEnterRun s).loader = s.loader ∧ (supplyEnterRun s).inputs = s.inputs ∧ (supplyEnterRun s).div = s.div ∧
    (supplyEnterRun s).probes = s.probes ∧ (supplyEnterRun s).peers = s.peers ∧
    (supplyEnterRun s).stage = s.stage ∧ (supplyEnterRun s).order = s.order ∧ (supplyEnterRun s).free = s.free ∧
    (supplyEnterRun s).pending = s.pending ∧ (supplyEnterRun s).cfg = s.cfg ∧ (supplyEnterRun s).mode = s.mode := by
  unfold supplyEnterRun; (repeat' split) <;> simp <;> (repeat' split) <;> simp

@[simp] theorem takeImage_frame (s : State) (i : List Byte) (m : Mode) :
    (takeImage s i m).inputs = s.inputs ∧ (takeImage s i m).div = s.div ∧ (takeImage s i m).probes = s.probes ∧
    (takeImage s i m).link = s.link ∧ (takeImage s i m).peers = s.peers ∧ (takeImage s i m).stage = s.stage ∧
    (takeImage s i m).head = s.head ∧ (takeImage s i m).arb = s.arb ∧ (takeImage s i m).pumps = s.pumps ∧
    (takeImage s i m).lamps = s.lamps ∧ (takeImage s i m).gate = s.gate ∧ (takeImage s i m).order = s.order ∧
    (takeImage s i m).free = s.free ∧ (takeImage s i m).pending = s.pending := by
  unfold takeImage; (repeat' split) <;> simp <;> (repeat' split) <;> simp

@[simp] theorem pumpEnterFallback_frame (s : State) (p : PumpId) :
    (pumpEnterFallback s p).loader = s.loader ∧ (pumpEnterFallback s p).inputs = s.inputs ∧
    (pumpEnterFallback s p).div = s.div ∧ (pumpEnterFallback s p).probes = s.probes ∧
    (pumpEnterFallback s p).peers = s.peers ∧ (pumpEnterFallback s p).stage = s.stage ∧
    (pumpEnterFallback s p).head = s.head ∧ (pumpEnterFallback s p).lamps = s.lamps ∧
    (pumpEnterFallback s p).gate = s.gate ∧ (pumpEnterFallback s p).order = s.order ∧
    (pumpEnterFallback s p).free = s.free ∧ (pumpEnterFallback s p).pending = s.pending ∧
    (pumpEnterFallback s p).cfg = s.cfg ∧ (pumpEnterFallback s p).mode = s.mode := by
  unfold pumpEnterFallback; (repeat' split) <;> simp <;> (repeat' split) <;> simp

@[simp] theorem pumpsEnterFallback_frame (s : State) :
    (pumpsEnterFallback s).loader = s.loader ∧ (pumpsEnterFallback s).inputs = s.inputs ∧
    (pumpsEnterFallback s).div = s.div ∧ (pumpsEnterFallback s).probes = s.probes ∧
    (pumpsEnterFallback s).peers = s.peers ∧ (pumpsEnterFallback s).stage = s.stage ∧
    (pumpsEnterFallback s).head = s.head ∧ (pumpsEnterFallback s).lamps = s.lamps ∧
    (pumpsEnterFallback s).gate = s.gate ∧ (pumpsEnterFallback s).order = s.order ∧
    (pumpsEnterFallback s).free = s.free ∧ (pumpsEnterFallback s).pending = s.pending ∧
    (pumpsEnterFallback s).cfg = s.cfg ∧ (pumpsEnterFallback s).mode = s.mode := by
  unfold pumpsEnterFallback; (repeat' split) <;> simp <;> (repeat' split) <;> simp

@[simp] theorem lampsEnterFallback_frame (s : State) :
    (lampsEnterFallback s).loader = s.loader ∧ (lampsEnterFallback s).inputs = s.inputs ∧
    (lampsEnterFallback s).div = s.div ∧ (lampsEnterFallback s).probes = s.probes ∧
    (lampsEnterFallback s).link = s.link ∧ (lampsEnterFallback s).peers = s.peers ∧
    (lampsEnterFallback s).stage = s.stage ∧ (lampsEnterFallback s).head = s.head ∧
    (lampsEnterFallback s).arb = s.arb ∧ (lampsEnterFallback s).pumps = s.pumps ∧
    (lampsEnterFallback s).gate = s.gate ∧ (lampsEnterFallback s).order = s.order ∧
    (lampsEnterFallback s).free = s.free ∧ (lampsEnterFallback s).pending = s.pending ∧
    (lampsEnterFallback s).cfg = s.cfg ∧ (lampsEnterFallback s).mode = s.mode := by
  unfold lampsEnterFallback; (repeat' split) <;> simp <;> (repeat' split) <;> simp

@[simp] theorem restartStageChange_frame (b s : State) :
    (restartStageChange b s).loader = s.loader ∧ (restartStageChange b s).inputs = s.inputs ∧
    (restartStageChange b s).div = s.div ∧ (restartStageChange b s).probes = s.probes ∧
    (restartStageChange b s).link = s.link ∧ (restartStageChange b s).peers = s.peers ∧
    (restartStageChange b s).stage = s.stage ∧ (restartStageChange b s).head = s.head ∧
    (restartStageChange b s).arb = s.arb ∧ (restartStageChange b s).lamps = s.lamps ∧
    (restartStageChange b s).gate = s.gate ∧ (restartStageChange b s).order = s.order ∧
    (restartStageChange b s).free = s.free ∧ (restartStageChange b s).pending = s.pending ∧
    (restartStageChange b s).cfg = s.cfg ∧ (restartStageChange b s).mode = s.mode := by
  unfold restartStageChange; split <;> simp

@[simp] theorem judgeSentOff_frame (b s : State) (p : PumpId) :
    (judgeSentOff b s p).loader = s.loader ∧ (judgeSentOff b s p).inputs = s.inputs ∧
    (judgeSentOff b s p).div = s.div ∧ (judgeSentOff b s p).probes = s.probes ∧
    (judgeSentOff b s p).peers = s.peers ∧ (judgeSentOff b s p).stage = s.stage ∧
    (judgeSentOff b s p).head = s.head ∧ (judgeSentOff b s p).lamps = s.lamps ∧
    (judgeSentOff b s p).gate = s.gate ∧ (judgeSentOff b s p).order = s.order ∧
    (judgeSentOff b s p).free = s.free ∧ (judgeSentOff b s p).pending = s.pending ∧
    (judgeSentOff b s p).cfg = s.cfg ∧ (judgeSentOff b s p).mode = s.mode := by
  unfold judgeSentOff; split <;> simp

@[simp] theorem takeImage_mode (s : State) (i : List Byte) (m : Mode) : (takeImage s i m).mode = m := rfl

@[simp] theorem takeImage_cfg (s : State) (i : List Byte) (m : Mode) :
    (takeImage s i m).cfg = clampFields (readFields i) := rfl

end Sys2Proof.Machine
end

