-- ==== Sys2Proof/Laws/Gate.lean ====
section
/-! SUPPORT. What each gate operation does to the Gate Controller: one equation per operation. -/

namespace Sys2Proof.Machine

@[simp] theorem setGateState_gate (s : State) (st : GateState) : (setGateState s st).gate = gateInState s.gate st := by
  simp only [setGateState]; (repeat' split) <;> simp

@[simp] theorem setMotor_gate (s : State) (m : Motor) : (setMotor s m).gate = { s.gate with motor := m } := rfl

@[simp] theorem enterWarning_gate (s : State) : (enterWarning s).gate =
    { gateInState s.gate .warning with warning := .fromZero, travel := .cleared } := by simp [enterWarning]

@[simp] theorem closesFromOpen_setGateState (s : State) (st : GateState) :
    closesFromOpen (setGateState s st) = closesFromOpen s := by simp [closesFromOpen, isFlood, gateInState]

@[simp] theorem enterOpen_gate (s : State) : (enterOpen s).gate =
    if closesFromOpen s then { gateInState (gateInState s.gate .atOpen) .warning with
      warning := .fromZero, travel := .cleared }
    else gateInState s.gate .atOpen := by
  unfold enterOpen; simp only [closesFromOpen_setGateState]; split <;> simp

@[simp] theorem enterHolding_gate (s : State) : (enterHolding s).gate = gateInState s.gate .holding := by
  simp [enterHolding]

@[simp] theorem enterLowerPending_gate (s : State) :
    (enterLowerPending s).gate = gateInState s.gate .lowerPending := by simp [enterLowerPending]

@[simp] theorem enterLowering_gate (s : State) : (enterLowering s).gate =
    { gateInState s.gate .lowering with
      motor := .down, travel := { phase := .running, count := s.gate.travel.count } } := by
  simp [enterLowering, gateInState]

@[simp] theorem enterLowerPaused_gate (s : State) : (enterLowerPaused s).gate =
    { gateInState s.gate .lowerPaused with
      motor := .off, travel := { phase := .held, count := s.gate.travel.count } } := by
  simp [enterLowerPaused, gateInState]

@[simp] theorem enterClosed_gate (s : State) : (enterClosed s).gate =
    { gateInState s.gate .closed with
      motor := .off, closeOrder := false, travel := .cleared,
      reopen := if isLowStage s then .fromZero else .cleared } := by
  simp [enterClosed]

@[simp] theorem enterRaisePending_gate (s : State) : (enterRaisePending s).gate =
    { gateInState s.gate .raisePending with travel := .cleared } := by simp [enterRaisePending]

@[simp] theorem enterRaising_gate (s : State) : (enterRaising s).gate =
    { gateInState s.gate .raising with motor := .up, travel := .fromZero } := by simp [enterRaising]

@[simp] theorem enterGateFault_gate (s : State) (c : GateCause) : (enterGateFault s c).gate =
    { gateInState s.gate .fault with
      cause := some c, motor := .off, travel := .cleared, localSurge := .cleared, closeOrder := false } := by
  simp [enterGateFault]

@[simp] theorem openOrRaise_gate (s : State) : (openOrRaise s).gate =
    if s.inputs.limUp.level then (enterOpen s).gate else (enterRaisePending s).gate := by
  unfold openOrRaise; split <;> rfl

@[simp] theorem closesFromOpen_cancelEntry (s : State) (r : Requester) :
    closesFromOpen (cancelEntry s r) = closesFromOpen s := by simp [closesFromOpen, isFlood]

@[simp] theorem leaveClosingPath_gate (s : State) : (leaveClosingPath s).gate = (openOrRaise s).gate := by
  simp [leaveClosingPath]

@[simp] theorem judgeClosing_gate (s : State) : (judgeClosing s).gate =
    if leavableState s.gate.state && s.gate.travel.count == 0 && !closingCause s then (openOrRaise s).gate
    else s.gate := by
  unfold judgeClosing; split <;> simp

@[simp] theorem takeTracked_gate (s : State) : (takeTracked s).gate =
    { gateInState s.gate (trackedState s) with blocked := .cleared, blockedFlag := false } := by simp [takeTracked]

@[simp] theorem trackArm_gate (s : State) :
    (trackArm s).gate = if s.gate.state = .fault then s.gate else (takeTracked s).gate := by
  unfold trackArm; split <;> simp_all

@[simp] theorem gateSurgeStart_gate (s : State) : (gateSurgeStart s).gate =
    if s.gate.state = .lowerPending then (enterLowering s).gate
    else if s.gate.state = .raisePending then (enterRaising s).gate else s.gate := by
  unfold gateSurgeStart; split <;> simp_all

@[simp] theorem reverseToWarning_gate (s : State) : (reverseToWarning s).gate =
    if s.gate.state = .raisePending ∨ s.gate.state = .atOpen then (enterWarning s).gate
    else if s.gate.state = .raising then { (enterWarning s).gate with motor := .off } else s.gate := by
  unfold reverseToWarning; split <;> simp_all
  split <;> simp [gateInState]

end Sys2Proof.Machine
end

