-- ==== Sys2Proof/Machine/Line.lean ====
section
/-! DEFINITION. The bay link below the character (R22, R23, R36): what the levels of the line that the receiver
samples make of a character, and what the echo check finds. The step takes the outcome as a command (log 30); these
definitions say which command it is. The level `true` is mark. -/

namespace Sys2Proof.Machine

/-! ### The line (R23) -/

/-- The level of the line: space where any unit drives space, mark where none does (R23). -/
def lineLevel (driven : List Bool) : Bool := driven.all id

/-- The echo check finds a mismatch: the station drives mark and reads back space (R23, R36). -/
def echoMismatch (driven others : Bool) : Bool := lineLevel [driven, others] != driven

/-- The attempt of a character fails: some bit is read back otherwise than driven (R36). -/
def characterCollides (b : Byte) (others : List Bool) : Bool :=
  ((characterBits b).zip others).any fun x => echoMismatch x.1 x.2

/-! ### The receiver's samples (R22) -/

/-- The majority of three samples (R22). -/
def majority (x y z : Bool) : Bool := (x && y) || (x && z) || (y && z)

/-- A bit of a character as it is read: the majority of its samples 7, 8 and 9, sixteen to a bit, the first of them at
the starting edge and numbered 0 (R22, log 30). -/
def sampledBit (samples : List Bool) (k : Nat) : Bool :=
  majority (samples.getD (16 * k + 7) true) (samples.getD (16 * k + 8) true) (samples.getD (16 * k + 9) true)

/-- The data bits of a character, least significant first (R22). -/
def sampledByte (samples : List Bool) : Byte :=
  byteOf ([0, 1, 2, 3, 4, 5, 6, 7].foldl (fun n k => n + flagBit (sampledBit samples (k + 1)) k) 0)

/-- What the samples of a character, from its starting edge on, bring the station: a start bit that is not confirmed
is a glitch, from which the line returns to mark; a stop bit read as mark makes a good character, as space a bad one
(R22). -/
def characterCommand (samples : List Bool) : Instr :=
  if sampledBit samples 0 then .lineReturnToMark
  else if sampledBit samples 9 then .goodCharacter (sampledByte samples)
  else .badCharacter

/-- The sixteen samples of each bit of a character that a unit at the same rate sends (R22, R23). -/
def characterSamples (b : Byte) : List Bool := (characterBits b).flatMap fun x => List.replicate 16 x

end Sys2Proof.Machine
end

