-- ==== Sys2Proof/Tests/Slice0.lean ====
section
/-! SUPPORT. The model's own tests: the operand checks, the worked cases of the manual, and for each statement with
hypotheses a theorem that shows states and operands that meet them. -/

namespace Sys2Proof.Tests

open Sys2Proof Sys2Proof.Machine

set_option Elab.async false

/-! ### A station to test with -/

/-- A PORTAL station 2 of the roster 0 to 3 at 9600 bit/s, with two pumps: its image, sixteen bytes a row. -/
def row0 : List Byte :=
  [0xC4, 0x18, 0x07, 0xE2, 0x0F, 0x0C, 0x05, 0x04, 0x14, 0x82, 0x10, 0x0E, 0x10, 0x28, 0x0C, 0x8D]

/-- The next row of the image. -/
def row1 : List Byte :=
  [0x48, 0x04, 0xB0, 0x82, 0x10, 0x0C, 0x80, 0x19, 0x13, 0x6B, 0x36, 0x02, 0x58, 0x00, 0x14, 0x00]

/-- The next row of the image. -/
def row2 : List Byte :=
  [0x96, 0x01, 0x2C, 0x00, 0x3C, 0x1E, 0x00, 0x78, 0x38, 0x41, 0xF4, 0x00, 0x28, 0x00, 0x96, 0x00]

/-- The next row of the image. -/
def row3 : List Byte :=
  [0x1E, 0x00, 0x40, 0x10, 0x10, 0x00, 0x14, 0x10, 0x00, 0x6E, 0x14, 0x0B, 0xB8, 0x0E, 0x10, 0x02]

/-- The next row of the image. -/
def row4 : List Byte :=
  [0x58, 0x18, 0x1E, 0x00, 0x6E, 0x14, 0x0B, 0xB8, 0x0E, 0x10, 0x02, 0x58, 0x18, 0x1E, 0x01, 0x2C]

/-- The next row of the image. -/
def row5 : List Byte :=
  [0x01, 0xF4, 0x03, 0x84, 0x0A, 0x35, 0x24, 0x05, 0x07, 0xD0, 0x03, 0xE8, 0x00, 0x14, 0x2E, 0xE0]

/-- The next row of the image. -/
def row6 : List Byte :=
  [0x32, 0x32, 0x01, 0x0C, 0xBB, 0x8F, 0xFF, 0x09, 0x0C, 0xBB, 0x8F, 0xFF, 0x02, 0x0C, 0x80, 0x0F]

/-- The next row of the image. -/
def row7 : List Byte :=
  [0xFF, 0x00, 0x00, 0x00, 0x00, 0x00, 0x33, 0x00, 0x1E, 0x05, 0x0C, 0x14, 0x04, 0x1E]

/-- The image up to its CRC. -/
def imageBody : List Byte := row0 ++ row1 ++ row2 ++ row3 ++ row4 ++ row5 ++ row6 ++ row7

/-- The whole image, with its CRC. -/
def demoImage : List Byte := imageBody ++ [0x6E, 0x5E]

/-- The same with a CRC that does not match. -/
def badImage : List Byte := imageBody ++ [0x6E, 0x5F]

/-- The pump record of the image. -/
def demoPump : PumpCfg := { prun := 110, ks := 20, tsurge := 3000, a := 3600, b := 600, tex := 24, tet := 30 }

/-- The fields of the image. -/
def demoCfg : StationConfig :=
  { portal := true, gateFitted := true, pumpCount := 2, halfStep := false, station := 2, roster := 0x0F,
    divisor := 12, ts := 5, th := 4, tstat := 20,
    probeA := { enable := true, exponent := 2, nd := 16, rld := 3600, tOpenMin := 40, d0 := 200, d1 := 3400,
                len := 1200 },
    probeB := { enable := true, exponent := 2, nd := 16, rld := 3200, tOpenMin := 25, d0 := 310, d1 := 2870,
                len := 600 },
    tWet := 20, tAlert := 150, tFlood := 300, rAlert := 60, hy := 30, tsh := 120, cMains := 900, cStandby := 500,
    margin := 40, aLost := 150, mr := 30, sMin := 64, sStep := 16, kl := 16, pgate := 20, kg := 16,
    pump := ⟨demoPump, demoPump⟩, sStop := 300, sStart1 := 500, sStart2 := 900, tfl := 10, lvPump := ⟨3, 5⟩,
    lvLower := 2, lvRaise := 4, lvRelight := 5, tgsurge := 2000, tlsurge := 1000, tcw := 20, tholdmax := 12000,
    flashOn := 50, flashOff := 50,
    channel := ⟨{ role := 1, activeLow := false, startsInactive := false, lfull := 12, normalTarget := 3000,
                  boostTarget := 4095 },
                { role := 1, activeLow := false, startsInactive := true, lfull := 12, normalTarget := 3000,
                  boostTarget := 4095 },
                { role := 2, activeLow := false, startsInactive := false, lfull := 12, normalTarget := 2048,
                  boostTarget := 4095 }, .zero⟩,
    np := 2, autoClose := true, stuckOverride := false, counted := ⟨true, true⟩, tw := 30, tclear := 5,
    tblocked := 12, ttravel := 20, tro := 4, tstuck := 30 }

/-- A peer that was heard with a depth, a rise and a draw. -/
def peer (k age depth : Nat) (rise : Int) (draw : Nat) (lag : Bool) : PeerEntry :=
  { station := k, age := some age,
    contents := some { depth := some depth, rise := rise, draw := draw, shed := true, lag := lag, lastSeq := 252 } }

/-- The station in RUN on the mains: the gate OPEN, the lamps lit, the pumps OFF, the listen-in time over, the peers
FRESH, STALE and LOST. -/
def demo : State :=
  { State.reset with
    loader := { mode := .run, resetHeld := false, reading := false, periods := 4192, image := demoImage,
                cfg := demoCfg, clamped := false }
    inputs := { Inputs.released with mainsOk := .settled true, limUp := .settled true }
    probes := { ProbeUnit.atReset with sampleTimer := .fromZero, historyTimer := .fromZero }
    link := { Link.atReset with idleCounting := true }
    peers := { PeerTable.atReset with
      entries := [peer 0 0 10 0 52 false, peer 1 3 15 5 120 true, { station := 3, age := none, contents := none }]
      timer := .fromZero, seq := 255 }
    head := { supply := .mains, scale := 256, h := 0, shedCapable := true, timer := .fromZero }
    arb := { Arbiter.atReset with listenIn := .elapsed, listenCount := 3000 }
    lamps := { LampControl.atReset with bank := .lit, pwmRunning := true, computed := ⟨3000, 3000, 0, 0⟩,
                                        applied := ⟨3000, 3000, 0, 0⟩ }
    gate := { GateControl.atReset with dwell := ⟨.atLimit, 5000⟩ } }

/-- The state that a command leads to. -/
def after (c : Instr) (s : State) : State :=
  match exec c s with
  | .next t => t
  | _ => s

/-- The demo station at BAY. -/
def bay : State := demo.onLoader fun l => { l with cfg := { l.cfg with portal := false, gateFitted := false } }

/-- A state in START that reads its image. -/
def starting : State := demo.onLoader fun l => { l with mode := .start, reading := true }

/-- A state in START with RESET_N held. -/
def held : State := State.reset

/-- A state in FALLBACK. -/
def fallen : State := demo.onLoader fun l => { l with mode := .fallback }

/-- The demo station with one field of the gate changed. -/
def gateAt (st : GateState) (f : GateControl → GateControl := id) : State :=
  demo.onGate fun g => f { g with state := st }

/-- The demo station with the key at LOCAL. -/
def keyLocalAt (s : State) : State := s.onInputs fun i => { i with key := .settled true }

/-- With the limit switches as given. -/
def limits (down up : Bool) (s : State) : State :=
  s.onInputs fun i => { i with limDown := .settled down, limUp := .settled up }

/-- With a loop occupied. -/
def occupied (s : State) : State := s.onInputs fun i => { i with loop := ⟨.settled true, .settled false⟩ }

/-- With a stage. -/
def atStage (st : Stage) (s : State) : State := s.onStage fun m => { m with stage := st }

/-- With a supply mode and the sense inputs that give it. -/
def supplied (x : Supply) (s : State) : State :=
  { s with
    inputs := { s.inputs with mainsOk := .settled (x == .mains), standbyOk := .settled (x == .standby) }
    head := { s.head with supply := x } }

/-- With the record of pump P1. -/
def pump1 (f : Pump → Pump) (s : State) : State := s.onPumps fun c => { c with pump := ⟨f c.pump.p1, c.pump.p2⟩ }

/-- With the record of pump P2. -/
def pump2 (f : Pump → Pump) (s : State) : State := s.onPumps fun c => { c with pump := ⟨c.pump.p1, f c.pump.p2⟩ }

/-- With the own claim in a state for a requester and its request. -/
def claiming (cl : ClaimState) (r : Requester) (q : Reason) (s : State) : State :=
  s.onArb fun a => { a with
    claim := cl
    table := a.table.upd r fun e => { e with request := some (requestFor s.cfg r q), served := true, armed := false } }

/-- With a frame of the own kind on the line. -/
def sending (k : TxKind) (n : Nat) (s : State) : State :=
  s.onLink fun l => { l with
    onLine := some { kind := k, attempts := n, bytes := [0xC6], position := 0 }, idleCounting := false }

/-- With a frame waiting in a slot. -/
def waiting (k : TxKind) (n : Nat) (s : State) : State :=
  s.onLink fun l => { l with slots := l.slots.set k (some n) }

/-- With the line idle for a number of bit times. -/
def idleFor (bits : Nat) (s : State) : State :=
  s.onLink fun l => { l with idle := bits * 16, idleCounting := true }

/-- A probe that charges. -/
def charging (p : ProbeId) (f : Probe → Probe) (s : State) : State :=
  onProbe s p fun q => f { q with phase := .charge }

/-! ### The checks of operands -/

theorem test_illFormed_image : (Instr.imageReadComplete []).wellFormed = false := by decide
theorem test_illFormed_captured : (Instr.probeTrip 4096).wellFormed = false := by decide
theorem test_illFormed_lengthByte : (Instr.lengthByteError 24).wellFormed = false := by decide
theorem test_illFormed_rejected :
    (Instr.frameRejected ⟨0x11, List.replicate 25 0, 0⟩).wellFormed = false := by decide
theorem test_illFormed_status : (Instr.statusArrival 8 (List.replicate 15 0)).wellFormed = false ∧
    (Instr.statusArrival 1 []).wellFormed = false := by decide
theorem test_illFormed_claim : (Instr.claimArrival 8 [0, 0, 0, 0]).wellFormed = false ∧
    (Instr.claimArrival 1 [0, 0, 0]).wellFormed = false := by decide
theorem test_illFormed_busy : (Instr.busyArrival 8 [0, 0, 0]).wellFormed = false ∧
    (Instr.busyArrival 1 [0, 0]).wellFormed = false := by decide
theorem test_illFormed_done : (Instr.doneArrival 8 [0, 0]).wellFormed = false ∧
    (Instr.doneArrival 1 [0]).wellFormed = false := by decide
theorem test_illFormed_report : (Instr.reportArrival 8 [0, 0, 0]).wellFormed = false ∧
    (Instr.reportArrival 1 [0, 0]).wellFormed = false ∧
    (Instr.reportArrival 1 (List.replicate 25 0)).wellFormed = false := by decide
theorem test_illFormed_ignored : (Instr.orderIgnored 9 0 0 0).wellFormed = false := by decide
theorem test_illFormed_unknown : (Instr.unknownOrder 12 0).wellFormed = false := by decide
theorem test_illFormed_clearFault : (Instr.clearFault 3).wellFormed = false := by decide
theorem test_illFormed_holder : (Instr.holderTimeout 8).wellFormed = false := by decide
theorem test_wellFormed_operands : (Instr.imageReadComplete demoImage).wellFormed = true ∧
    (Instr.probeTrip 4095).wellFormed = true ∧ (Instr.orderIgnored 15 0 0 0).wellFormed = true ∧
    (Instr.unknownOrder 13 0).wellFormed = true := by decide +kernel

/-! ### Worked cases of the manual -/

/-- The CRC of the nine digits (2.2, R29). -/
theorem test_crc_digits : crcOf [0x31, 0x32, 0x33, 0x34, 0x35, 0x36, 0x37, 0x38, 0x39] = 0x29B1 := by
  decide +kernel

theorem crc_row0 : row0.foldl crcByte 0xFFFF = 0x9C44 := by decide +kernel
theorem crc_row1 : row1.foldl crcByte 0x9C44 = 0x5B72 := by decide +kernel
theorem crc_row2 : row2.foldl crcByte 0x5B72 = 0x4D20 := by decide +kernel
theorem crc_row3 : row3.foldl crcByte 0x4D20 = 0x8717 := by decide +kernel
theorem crc_row4 : row4.foldl crcByte 0x8717 = 0xBC4B := by decide +kernel
theorem crc_row5 : row5.foldl crcByte 0xBC4B = 0x0FC0 := by decide +kernel
theorem crc_row6 : row6.foldl crcByte 0x0FC0 = 0x189E := by decide +kernel
theorem crc_row7 : row7.foldl crcByte 0x189E = 0x6E5E := by decide +kernel

/-- The CRC of the image, row by row (R29, R177). -/
theorem test_image_crc : crcOf imageBody = 0x6E5E := by
  simp only [crcOf, imageBody, List.foldl_append, crc_row0, crc_row1, crc_row2, crc_row3, crc_row4, crc_row5,
    crc_row6, crc_row7]

/-- A SYNC is read back from its own samples; held at space it is a bad character, a short edge a glitch (R22); a
mark that another unit turns to space collides (R36). -/
theorem test_character_samples :
    characterCommand (characterSamples 0xC6) = .goodCharacter 0xC6 ∧
    characterCommand (List.replicate 160 false) = .badCharacter ∧
    characterCommand (List.replicate 7 false ++ List.replicate 153 true) = .lineReturnToMark ∧
    characterCollides 0xC6 (List.replicate 10 true) = false ∧
    characterCollides 0xC6 (characterBits 0xC5) = true := by decide +kernel

/-- From the end of its last stop bit on the station drives the line no more, though the report is still to come
(R23). -/
theorem test_linkDrive_frame_end :
    let at_ := fun n => demo.onLink fun l => { l with
      onLine := some { kind := .status, attempts := 0, bytes := [0xC6], position := n } }
    linkDrive (at_ 0) = some false ∧ linkDrive (at_ 159) = some true ∧ linkDrive (at_ 160) = none := by
  decide +kernel

/-- The image's fields stand where Figure 11-1 puts them, and none is clamped. -/
theorem test_image_fields : clampFields (readFields demoImage) = demoCfg ∧ wasClamped demoImage = false := by
  decide +kernel

/-- The image passes the checks of R177. -/
theorem test_image_valid : imageValid demoImage = true := by
  have h : demoImage.take 126 = imageBody := by decide +kernel
  have f : fieldsValid (clampFields (readFields demoImage)) = true := by decide +kernel
  have n : imageHalf demoImage 126 = 0x6E5E := by decide +kernel
  have m : markerValid demoImage = true := by decide +kernel
  simp only [imageValid, imageCrcValid, h, f, n, m, test_image_crc]; decide

/-- With another CRC it fails them. -/
theorem test_image_invalid : imageValid badImage = false := by
  have h : badImage.take 126 = imageBody := by decide +kernel
  have n : imageHalf badImage 126 = 0x6E5F := by decide +kernel
  have m : markerValid badImage = true := by decide +kernel
  simp only [imageValid, imageCrcValid, h, n, m, test_image_crc]; decide

/-- The depths of section 1.4's table. -/
theorem test_depths_of_captures :
    [2335, 1100, 3765, 4095].map (fun n => convertDepth demoCfg.probeB (n - startCount demoCfg.probeB)) =
      [264, 0, 600, 600] := by decide +kernel

/-- A captured 2335 at probe B is 264 mm (1.4); 907 is OPEN. -/
theorem test_probeTrip :
    (after (.probeTrip 4095) (charging .b (fun q => { q with charge := 2335 }) demo)).probes.b.depth = some 264 ∧
    (after (.probeTrip 4095) (charging .b (fun q => { q with charge := 907 }) demo)).probes.b.status =
      .openCircuit := by decide +kernel

/-- An overflow is OVER, with the probe length (1.4). -/
theorem test_probeOverflow : (after .probeOverflow (charging .b id demo)).probes.b.depth = some 600 := by
  decide +kernel

/-- The fault and the recovery of section 1.5's table, readings 7 and 12. -/
theorem test_probe_fault_and_recovery :
    (takeOpen { Probe.atReset with window := [813, 821, 1200], runCount := 2, depth := some 944 }).faulted = true ∧
    (takeDepth 828 { Probe.atReset with window := [825, 834], runCount := 2, faulted := true }).depth =
      some 829 ∧
    (takeDepth 840 { Probe.atReset with window := [825, 834, 828, 831], depth := some 829 }).depth = some 833 := by
  decide +kernel

/-- The rise rates of section 1.7: 152 with absent marks inside, and -27 truncated toward zero. -/
theorem test_rise_rates :
    riseOf 5 ([none, some 140] ++ List.replicate 12 (some 200) ++ [none, some 318]) = (152, true) ∧
    riseOf 3 ([none, some 410] ++ List.replicate 10 none ++ [some 395, none, none, none]) = (-27, true) := by
  decide +kernel

/-- The gaps of section 3.7: 255 after 253 misses one frame, a repeat none. -/
theorem test_sequence_gaps :
    missedFrames { station := 1, age := some 0, contents := some ⟨none, 0, 0, false, false, 253⟩ } 255 = 1 ∧
    missedFrames { station := 1, age := some 6, contents := some ⟨none, 0, 0, false, false, 2⟩ } 0 = 253 ∧
    missedFrames { station := 1, age := some 0, contents := some ⟨none, 0, 0, false, false, 2⟩ } 2 = 0 := by
  decide +kernel

/-- A STATUS of a peer with another sequence number counts the gap and refreshes the age (3.7). -/
theorem test_statusArrival :
    (after (.statusArrival 1 (List.replicate 14 0 ++ [255])) demo).peers.seqGap = 2 ∧
    ((after (.statusArrival 1 (List.replicate 14 0 ++ [255])) demo).peers.entries.map PeerEntry.age) =
      [some 0, some 0, none] := by decide +kernel

/-- Station 2 of section 5.6: BAY, its four channels NORMAL, P1 RUNNING, on the standby supply. -/
def shedCase : State :=
  { demo with
    loader := { demo.loader with cfg := { demoCfg with
      portal := false, gateFitted := false, roster := 0x3F, cMains := 900, cStandby := 500
      channel :=
        ⟨{ ChannelCfg.zero with role := 1, lfull := 12, normalTarget := 4095 },
         { ChannelCfg.zero with role := 1, lfull := 12, normalTarget := 4095 },
         { ChannelCfg.zero with role := 1, lfull := 12, normalTarget := 2048 },
         { ChannelCfg.zero with role := 1, lfull := 12, normalTarget := 2048 }⟩ } }
    peers := { demo.peers with
      entries := [peer 0 0 10 0 52 false, peer 1 0 10 0 120 true, peer 3 4 10 0 146 true,
                  { station := 4, age := none, contents := none }, peer 5 0 10 0 60 false] }
    pumps := { PumpControl.atReset with
      pump := ⟨{ Pump.atReset with state := .running, reason := some .demand, run := .fromZero }, .atReset⟩
      leadDemand := true, later := some .p1 }
    lamps := { demo.lamps with computed := ⟨4095, 4095, 2048, 2048⟩ } }

/-- The headrooms of section 5.6, 184 on the mains and -216 on the standby supply. -/
theorem test_headrooms : headroomOf shedCase = 184 ∧ headroomOf (supplied .standby shedCase) = -216 := by
  decide +kernel

/-- The shed of section 5.6: the scale goes to 64 and the duties with it. -/
theorem test_budgetTimerExpiry :
    (after .budgetTimerExpiry (supplied .standby shedCase)).head.scale = 64 ∧
    (after .budgetTimerExpiry (supplied .standby shedCase)).lamps.computed = ⟨1023, 1023, 512, 512⟩ := by
  decide +kernel

/-- The headroom of section 5.7, cut off from every other station: -72. -/
theorem test_isolated_headroom :
    headroomOf ((supplied .standby shedCase).onPeers fun t => { t with isolated := true }) = -72 := by
  decide +kernel

/-- A duty of section 8.6: 3000 at scale 192 is 2250; 4095 at 128 is 2047. -/
theorem test_scaled_duties : scaledDuty 3000 192 = 2250 ∧ scaledDuty 4095 128 = 2047 := by decide

/-- The effective claim window at 9600, 57600 and 1200 bit/s (R111). -/
theorem test_effective_windows :
    effectiveWindow demoCfg = 61 ∧ effectiveWindow { demoCfg with divisor := 2 } = 20 ∧
    effectiveWindow { demoCfg with divisor := 96 } = 484 := by decide +kernel

/-- The stage of section 4.7 at 790: U of 268 below 270 steps FLOOD down to ALERT once the hold is served; 285 does
not. -/
theorem test_descent_hysteresis :
    belowHysteresis demoCfg .flood 268 = true ∧ belowHysteresis demoCfg .flood 270 = false ∧
    belowHysteresis demoCfg .wet 10 = false ∧ belowHysteresis demoCfg .wet 0 = true := by decide +kernel

/-- The hold expiry of section 4.7 at 720, with U at 285 mm: the timer goes to SERVED and the stage stays. -/
theorem test_stageHoldExpiry :
    (after .stageHoldExpiry { demo with
      peers := { demo.peers with entries := [peer 1 0 220 (-5) 0 false, peer 3 0 285 (-38) 0 false] }
      stage := { stage := .flood, blind := false, hold := .running, holdCount := 120000 } }).stage =
    { stage := .flood, blind := false, hold := .served, holdCount := 120000 } := by decide +kernel

/-- Section 9.10 at 32.0: HOLDING goes to LOWER_PENDING at the dwell limit, with a LOWER request posted. -/
theorem test_dwellTimerLimit :
    (after .dwellTimerLimit (atStage .flood (limits false false (gateAt .holding fun g => { g with
      dwell := ⟨.running, 5000⟩, blocked := ⟨.running, 2000⟩ })))).gate.state = .lowerPending ∧
    (after .dwellTimerLimit (atStage .flood (limits false false (gateAt .holding fun g => { g with
      dwell := ⟨.running, 5000⟩, blocked := ⟨.running, 2000⟩ })))).gate.blocked = ⟨.held, 2000⟩ := by
  decide +kernel

/-- Section 9.10 at 38.1: a loop that becomes occupied pauses the lowering with the motor off. -/
theorem test_loopChange :
    (after (.loopChange .loop1 true) (atStage .flood (limits false false (gateAt .lowering fun g => { g with
      motor := .down, travel := ⟨.running, 6000⟩ })))).gate.state = .lowerPaused ∧
    (after (.loopChange .loop1 true) (atStage .flood (limits false false (gateAt .lowering fun g => { g with
      motor := .down, travel := ⟨.running, 6000⟩ })))).gate.travel = ⟨.held, 6000⟩ := by decide +kernel

/-- Section 9.10 at 55.1: the DOWN limit closes the gate, and in FLOOD the reopen timer does not start. -/
theorem test_downLimitChange :
    (after (.downLimitChange true) (atStage .flood (limits false false (gateAt .lowering fun g => { g with
      motor := .down, travel := ⟨.running, 15000⟩ })))).gate.state = .closed ∧
    (after (.downLimitChange true) (atStage .flood (limits false false (gateAt .lowering fun g => { g with
      motor := .down, travel := ⟨.running, 15000⟩ })))).gate.reopen = .cleared := by decide +kernel

/-- The order frame of the tool is taken at its last character, and answered: QUERY with page 0. -/
theorem test_goodCharacter :
    let s := demo.onLink fun l => { l with
      asm := .crcLow, buffer := { header := some 0x5F, length := some 4, payload := [2, 1, 0, 0], crc := [0xE8] } }
    (after (.goodCharacter 0xD9) s).link.slots.report = some 0 ∧
    ((after (.goodCharacter 0xD9) s).order.map ReportRecord.code) = some 1 := by decide +kernel

/-- A claim that is superior to the own one in CLAIM_WAIT ends it with DONE(ABANDONED) (R103). -/
theorem test_claimArrival :
    (after (.claimArrival 1 [0x10, 2, 1, 19]) (claiming .claimWait .gate .lower demo)).arb.claim = .idle ∧
    (after (.claimArrival 1 [0x10, 2, 1, 19]) (claiming .claimWait .gate .lower demo)).link.slots.done = some 0 := by
  decide +kernel

/-- The time that section 6.7's BUSY of 310.73 carries, 201.35 ms into a surge of 3000 ms: 2798 ms (R109). -/
theorem test_remaining_surge : remainingSurge
    { demo with arb := { demo.arb with surge := ⟨.running, 201⟩ }, div := { demo.div with msTenths := 12902 } }
    .p1 = 2798 := by decide +kernel

/-- CLEAR_FAULT with the thermal input asserted is REFUSED_STATE whatever the cause (R136, log 34). -/
theorem test_clearFault :
    let s := pump1 (fun q => { q with state := .fault, cause := some .noRun })
      (demo.onInputs fun i => { i with thermal := ⟨.settled true, .settled false⟩ })
    ((after (.clearFault 1) s).order.map ReportRecord.result) = some .refusedState ∧
    (pumpOf (after (.clearFault 1) s) .p1).state = .fault := by decide +kernel

/-- After a bad stop bit no character is formed before the line is back at mark (R22). -/
theorem test_badCharacter :
    (after .badCharacter demo).link.rx = .awaitMark ∧
    after (.goodCharacter 0xC6) (after .badCharacter demo) = after .badCharacter demo := by decide +kernel

/-- LAMP_TEST drives the used channels at 4095 (R147). -/
theorem test_lampTest : (after (.lampTest 0) demo).lamps.computed = ⟨4095, 4095, 4095, 0⟩ := by decide +kernel

/-- A STATUS that has been sent advances the sequence number, from 255 to 0 (R44). -/
theorem test_frameSent : (after .frameSent (sending .status 0 demo)).peers.seq = 0 := by decide +kernel

/-- A valid image takes the station to RUN with the gate derived, an invalid one to FALLBACK (R178, R179). -/
theorem test_imageReadComplete :
    exec (.imageReadComplete demoImage) starting = .next (enterRun starting demoImage) ∧
    (enterRun starting demoImage).mode = .run ∧ (enterRun starting demoImage).gate.state = .atOpen ∧
    exec (.imageReadComplete badImage) starting = .next (enterFallback starting badImage) ∧
    (enterFallback starting badImage).mode = .fallback := by
  refine ⟨?_, by decide +kernel, by decide +kernel, ?_, by decide +kernel⟩
  · have r : readingImage starting = true := by decide +kernel
    simp only [exec, execImageReadComplete, r, test_image_valid, if_true]
  · have r : readingImage starting = true := by decide +kernel
    simp [exec, execImageReadComplete, r, test_image_invalid]

/-! ### Witnesses: the block as a whole -/

theorem witness_StepRunsFrontCommand : ∃ (c : Instr) (rest : List Instr) (s : State),
    s.pending = c :: rest ∧ rest ≠ [] :=
  ⟨.frameSent, [.collision], demo.withPending [.frameSent, .collision], by decide +kernel⟩

/-- A command other than COLD_RESET, for the clause on the dividers. -/
theorem witness_EveryCommandAnswersAndKeepsQueue : ∃ c : Instr, c ≠ .coldReset := ⟨.pbStop, by decide⟩

/-- The ways in which the mode changes, HOLD_CLOSED set and cleared, and the computed duties applied. -/
theorem witness_ModeHoldAndAppliedDutyChangeOnlyWhereNamed :
    (∃ t, exec .coldReset demo = .next t ∧ t.mode = .start) ∧
    (∃ t, exec .resetRelease held = .next t ∧ t.mode = .start) ∧
    (∃ t, exec (.imageReadComplete demoImage) starting = .next t ∧ starting.mode = .start ∧ t.mode = .run) ∧
    (∃ t, exec (.restart 0) demo = .next t ∧ t.mode = .start) ∧
    (∃ t, exec (.gateHold 0) demo = .next t ∧ t.gate.holdClosed ≠ demo.gate.holdClosed) ∧
    (∃ t, exec (.gateRelease 0) (gateAt .closed fun g => { g with holdClosed := true }) = .next t ∧
      t.gate.holdClosed = false) ∧
    ∃ t, exec .pwmPeriodBoundary { demo with lamps := { demo.lamps with computed := ⟨0, 0, 0, 0⟩ } } = .next t ∧
      t.lamps.applied ≠ demo.lamps.applied :=
  ⟨⟨_, rfl, by decide +kernel⟩, ⟨_, rfl, by decide +kernel⟩,
    ⟨_, test_imageReadComplete.1, by decide +kernel, test_imageReadComplete.2.1⟩, ⟨_, rfl, by decide +kernel⟩,
    ⟨_, rfl, by decide +kernel⟩, ⟨_, rfl, by decide +kernel⟩, ⟨_, rfl, by decide +kernel⟩⟩

theorem witness_RunCommandsChangeNothingOutsideRun :
    needsRun (.query 0) = true ∧ fallen.mode ≠ .run ∧ starting.mode ≠ .run := by decide +kernel

/-- The state that a step leads to. -/
def stepped (s : State) : State :=
  match step s with
  | .next t => t
  | _ => s

/-- With the dividers as given. -/
def dividing (ms link probe pwm : Nat) (s : State) : State := { s with div := ⟨ms, link, probe, pwm⟩ }

/-- The last period of a ms, a link clock, a measurement tick and a PWM clock, and the one before it; a divider that
stands past a smaller limit; inputs, timers, frames and phases one short of what they bring. -/
theorem witness_EmptyQueueStepCountsOnePeriod :
    (demo.pending = [] ∧ starting.pending = [] ∧ starting.loader.reading = true ∧ fallen.pending = []) ∧
    (msEnds (dividing 36854 0 0 0 demo) ∧ ¬msEnds (dividing 36853 0 0 0 demo)) ∧
    (linkClockEnds (dividing 0 23 0 0 demo) ∧ ¬linkClockEnds (dividing 0 22 0 0 demo) ∧
      ¬linkClockEnds (dividing 0 24 0 0 demo)) ∧
    (probeTickEnds (dividing 0 0 3 0 (charging .b id demo)) .b ∧
      ¬probeTickEnds (dividing 0 0 2 0 (charging .b id demo)) .b ∧ ¬probeTickEnds (dividing 0 0 3 0 demo) .a) ∧
    (pwmClockEnds (dividing 0 0 0 1 demo) ∧ ¬pwmClockEnds (dividing 0 0 0 0 demo)) ∧
    (let s := dividing 36854 0 0 0 (demo.onInputs fun i => { i with
       float := { pin := true, level := false, opposite := 7 },
       pbStop := { pin := false, level := true, opposite := 7 } })
     (stepped s).pending = [.floatAsserted] ∧ (stepped s).inputs.pbStop.level = false) ∧
    (let s := dividing 36854 0 0 0 (demo.onProbes fun u => { u with sampleTimer := ⟨.running, 499⟩ })
     (stepped s).pending = [.sampleTimerExpiry]) ∧
    (let s := dividing 0 23 0 0 ((waiting .status 0 demo).onLink fun l => { l with idle := 351 })
     (stepped s).pending = [.transmissionBegin]) ∧
    (let s := dividing 0 23 0 0 (demo.onLink fun l => { l with
       onLine := some { kind := .status, attempts := 0, bytes := [0xC6], position := 159 }, idleCounting := false })
     (stepped s).pending = [.frameSent]) ∧
    (let s := dividing 0 23 0 0 (starting.onLink fun l => { l with tail := some { byte := 0xC6, position := 159 } })
     (stepped s).link.tail = none) ∧
    (let s := dividing 0 0 3 0 (charging .b (fun q => { q with charge := 4095 }) demo)
     (stepped s).pending = [.probeOverflow]) ∧
    (let s := dividing 0 0 0 1 (demo.onLamps fun l => { l with period := 4095 })
     (stepped s).pending = [.pwmPeriodBoundary]) ∧
    (let s := dividing 0 0 0 1 (demo.onLamps fun l => { l with period := 1095 })
     (stepped s).pending = [.activeCountReached .ch1]) := by decide +kernel

/-! ### Witnesses: invariants, each at a state where it says something, with a step from there -/

/-- A lowering gate with its motor on, and the step of a waiting loop change. -/
def lowering : State :=
  (atStage .flood (limits false false (gateAt .lowering fun g => { g with
    motor := .down, travel := ⟨.running, 6000⟩, dwell := ⟨.atLimit, 5000⟩ }))).withPending [.loopChange .loop1 true]

theorem witness_GateInterlockKeptByStep :
    ∃ s t, GateInv s ∧ s.gate.motor = .down ∧ step s = .next t ∧ t.gate.motor = .off := by
  refine ⟨lowering, _, ?_, by decide +kernel, rfl, by decide +kernel⟩
  constructor <;> (try unfold heldInStart) <;> decide +kernel

/-- A surge for the lamps whose timer ends. -/
def relighting : State :=
  { (claiming .surge .lamps .relight demo) with
    pending := [.surgeTimerExpiry], lamps := { demo.lamps with bank := .relighting } }

theorem witness_OneServedEntryKeptByStep :
    ∃ s t, ServedInv s ∧ servedCount s = 1 ∧ step s = .next t ∧ servedCount t = 0 := by
  refine ⟨relighting, _, ⟨?_, ?_, ?_⟩, by decide +kernel, rfl, by decide +kernel⟩
  · decide +kernel
  · decide +kernel
  · intro r; cases r <;> decide +kernel

/-- Two claims of peers, and a third that arrives. -/
def heardClaims : State :=
  { demo with
    arb := { demo.arb with claims := [⟨1, 1, 0, 3, 275, 5⟩, ⟨0, 0, 3, 5, 40, 10⟩] }
    pending := [.claimArrival 3 [0x10, 3, 1, 19]] }

theorem witness_ClaimListAndPeerTableKeptByStep :
    (∃ s t, ClaimsInv s ∧ s.arb.claims.length = 2 ∧ step s = .next t ∧ t.arb.claims.length = 3) ∧
    ∃ s t, PeersInv s ∧ inRun s = true ∧ step s = .next t := by
  refine ⟨⟨heardClaims, _, ?_, by decide +kernel, rfl, by decide +kernel⟩,
    demo.withPending [.statusPeriodExpiry], _, by unfold PeersInv; decide +kernel, by decide +kernel, rfl⟩
  constructor <;> (try unfold heldInStart) <;> (try unfold inOrder) <;> decide +kernel

theorem witness_BoundsKeptByStep :
    ∃ s t, BoundsInv s ∧ s.peers.seq = 255 ∧ inRun s = true ∧ s.head.scale = s.cfg.sMin ∧ step s = .next t := by
  refine ⟨(demo.onHead fun h => { h with scale := 64 }).withPending [.frameSent], _, ?_, by decide +kernel,
    by decide +kernel, by decide +kernel, rfl⟩
  constructor <;> decide +kernel

/-- A pump that claims again at a greater level than the entry that holds the mark, and a pump due for relief. -/
def requesting : State :=
  ((pump2 (fun q => { q with state := .running, reason := some .demand, relief := true })
    (pump1 (fun q => { q with state := .surging, reason := some .demand })
      (claiming .surge .p1 .demand demo))).onArb fun a => { a with
        table := a.table.upd .p1 fun e => { e with held := some ⟨.exercise, 6, .edge⟩ } }).withPending
    [.surgeTimerExpiry]

/-- A pump whose claim for DEMAND was cancelled while its CLAIM is on the line, and that waits to exercise. -/
def cancelled : State :=
  ((pump1 (fun q => { q with state := .pending, reason := some .exercise })
    (sending .claim 0 (claiming .claimQueued .p1 .demand demo))).onArb fun a => { a with
      cancelHeld := true, table := a.table.upd .p1 fun e => { e with held := some ⟨.exercise, 6, .edge⟩ } }).withPending
    [.frameSent]

theorem requesting_inv : ServedInv requesting ∧ RequestsInv requesting ∧ PumpRequestsInv requesting := by
  refine ⟨⟨?_, ?_, ?_⟩, ⟨?_, ?_, ?_, ?_⟩, ⟨?_, ?_, ?_, ?_, ?_, ?_⟩⟩
  · decide +kernel
  · decide +kernel
  · intro r; cases r <;> decide +kernel
  · intro r; cases r <;> decide +kernel
  · exact fun h => absurd h (by decide +kernel)
  · intro p; cases p <;> decide +kernel
  · unfold heldInStart; decide +kernel
  · intro p; cases p <;> decide +kernel
  · intro p; cases p <;> decide +kernel
  · intro p; cases p <;> decide +kernel
  · intro p h; cases p <;> exact absurd h (by decide +kernel)
  · decide +kernel
  · intro p; cases p <;> decide +kernel

theorem cancelled_inv : ServedInv cancelled ∧ RequestsInv cancelled ∧ PumpRequestsInv cancelled := by
  refine ⟨⟨?_, ?_, ?_⟩, ⟨?_, ?_, ?_, ?_⟩, ⟨?_, ?_, ?_, ?_, ?_, ?_⟩⟩
  · decide +kernel
  · decide +kernel
  · intro r; cases r <;> decide +kernel
  · intro r; cases r <;> decide +kernel
  · exact fun h => absurd h (by decide +kernel)
  · intro p; cases p <;> decide +kernel
  · unfold heldInStart; decide +kernel
  · intro p; cases p <;> decide +kernel
  · intro p; cases p <;> decide +kernel
  · intro p; cases p <;> decide +kernel
  · intro p h; cases p
    · exact ⟨⟨.exercise, 6, .edge⟩, by decide +kernel, by decide +kernel⟩
    · exact absurd h (by decide +kernel)
  · decide +kernel
  · intro p; cases p <;> decide +kernel

theorem witness_HeldRequestsAndReliefKeptByStep :
    (∃ s t, RequestsInv s ∧ (entryOf s .p1).held.isSome = true ∧ (pumpOf s .p2).relief = true ∧ step s = .next t) ∧
    (∃ s t, RequestsInv s ∧ inRun s = false ∧ s.pending ≠ [] ∧ step s = .next t) ∧
    (∃ s t, ServedInv s ∧ RequestsInv s ∧ PumpRequestsInv s ∧ s.arb.claim = .surge ∧ step s = .next t) ∧
    ∃ s t, ServedInv s ∧ RequestsInv s ∧ PumpRequestsInv s ∧ s.arb.cancelHeld = true ∧
      (pumpOf s .p1).state = .pending ∧ step s = .next t := by
  refine ⟨⟨requesting, _, requesting_inv.2.1, by decide +kernel, by decide +kernel, rfl⟩,
    ⟨State.reset.withPending [.resetRelease], _, ⟨?_, ?_, ?_, ?_⟩, by decide +kernel, by decide +kernel, rfl⟩,
    ⟨requesting, _, requesting_inv.1, requesting_inv.2.1, requesting_inv.2.2, by decide +kernel, rfl⟩,
    cancelled, _, cancelled_inv.1, cancelled_inv.2.1, cancelled_inv.2.2, by decide +kernel, by decide +kernel, rfl⟩
  · intro r; cases r <;> decide +kernel
  · exact fun _ => ⟨by decide +kernel, fun r => by cases r <;> decide +kernel⟩
  · intro p; cases p <;> decide +kernel
  · unfold heldInStart; decide +kernel

/-! ### Witnesses: resets and entries -/

theorem witness_ResetGivesResetValuesAndReleaseReadsImage :
    held.loader.resetHeld = true ∧ demo.loader.resetHeld = false := by decide +kernel

/-- A state in START after a warm restart: the lamps DARK, an exercise timer at the limit of the image before, a pump
left RUNNING for its exercise, RELIGHT armed. -/
def restarted : State :=
  (pump2 (fun q => { q with state := .running, reason := some .exercise, exercise := ⟨.held, 5⟩ })
    (pump1 (fun q => { q with exercise := ⟨.atLimit, 3600000⟩ }) starting)).onLamps fun l => { l with bank := .dark }

/-- A pump left RUNNING in START with its thermal input asserted. -/
def leftRunning : State :=
  pump1 (fun q => { q with state := .running, reason := some .demand })
    (starting.onInputs fun i => { i with thermal := ⟨.settled true, .settled false⟩ })

theorem witness_ValidImageEntersRun :
    (∃ (image : List Byte) (s : State), s.mode = .start ∧ s.loader.reading = true ∧ imageValid image = true ∧
      (clampFields (readFields image)).portal = true) ∧
    (restarted.mode = .start ∧ restarted.loader.reading = true ∧ restarted.head.supply ≠ .none ∧
      fitted (clampFields (readFields demoImage)) .p1 = true ∧ (pumpOf restarted .p1).state = .off ∧
      (pumpOf restarted .p1).exercise.count < (clampFields (readFields demoImage)).pump.p1.tex * 3600000 ∧
      restarted.lamps.bank ≠ .lit ∧ (entryOf restarted .lamps).armed = true ∧
      (entryOf restarted .lamps).served = false ∧ restarted.lamps.warning = false ∧
      restarted.lamps.flash = .stopped ∧ restarted.lamps.test.phase ≠ .running) ∧
    (starting.lamps.bank = .lit ∧ starting.arb.claim = .idle ∧ (entryOf starting .lamps).pending = false) ∧
    (supplied .none starting).head.supply = .none ∧
    (tableAtRest starting ∧ (∀ p ∈ [PumpId.p1, .p2], contactorClosed starting p = false) ∧
      fitted (clampFields (readFields demoImage)) .p2 = true) ∧
    (leftRunning.mode = .start ∧ leftRunning.loader.reading = true ∧ contactorClosed leftRunning .p1 = true ∧
      (leftRunning.inputs.thermal.get .p1).level = true ∧ leftRunning.head.supply ≠ .none ∧
      contactorClosed leftRunning .p2 = false ∧ leftRunning.pumps.lead = .p1 ∧
      (pumpOf leftRunning .p2).state = .off) := by
  refine ⟨⟨demoImage, starting, by decide +kernel, by decide +kernel, test_image_valid, by decide +kernel⟩,
    by decide +kernel, by decide +kernel, by decide +kernel,
    ⟨fun _ => ⟨by decide +kernel, fun r => ?_⟩, by decide +kernel, by decide +kernel⟩, by decide +kernel⟩
  cases r <;> decide +kernel

theorem witness_EntryToRunDerivesGate :
    (∃ (image : List Byte) (s : State), s.mode = .start ∧ s.loader.reading = true ∧ imageValid image = true ∧
      (readFields image).portal = true ∧ s.inputs.key.level = false) ∧
    ∃ (image : List Byte) (s : State), s.mode = .start ∧ s.loader.reading = true ∧ imageValid image = true ∧
      (readFields image).portal = true ∧ s.inputs.key.level = true ∧ s.gate.motor = .off ∧ s.gate.state ≠ .fault :=
  ⟨⟨demoImage, starting, by decide +kernel, by decide +kernel, test_image_valid, by decide +kernel,
      by decide +kernel⟩,
    demoImage, keyLocalAt starting, by decide +kernel, by decide +kernel, test_image_valid, by decide +kernel,
      by decide +kernel, by decide +kernel, by decide +kernel⟩

/-- A pump in FAULT, and one that stands in neither FAULT nor INHIBITED. -/
def oneFaulted : State := pump1 (fun q => { q with state := .fault, cause := some .noRun }) starting

theorem witness_InvalidImageEntersFallback :
    ∃ (image : List Byte) (s : State), s.mode = .start ∧ s.loader.reading = true ∧ imageValid image = false ∧
      (pumpOf s .p1).state = .fault ∧ (pumpOf s .p2).state ≠ .fault ∧ (pumpOf s .p2).state ≠ .inhibited ∧
      fitted (clampFields (readFields image)) .p2 = true :=
  ⟨badImage, oneFaulted, by decide +kernel, by decide +kernel, test_image_invalid, by decide +kernel,
    by decide +kernel, by decide +kernel, by decide +kernel⟩

/-- In FLOOD, a pump RUNNING for DEMAND at its run limit. -/
def floodRunner : State :=
  atStage .flood (pump1 (fun q => { q with state := .running, reason := some .demand, run := ⟨.running, 3600000⟩ })
    (demo.onInputs fun i => { i with runSense := ⟨.settled true, .settled false⟩ }))

/-- A pump in each state, a frame on the line in its second character, and a thermal input asserted. -/
theorem witness_RestartKeepsAndClears :
    (demo.mode = .run ∧ demo.cfg.portal = true ∧ demo.inputs.key.level = false ∧
      demo.lamps.test.phase ≠ .running ∧ demo.link.onLine = none ∧
      ∀ p ∈ [PumpId.p1, .p2], (demo.inputs.thermal.get p).level = false) ∧
    ((keyLocalAt demo).mode = .run ∧ (keyLocalAt demo).cfg.portal = true ∧ (keyLocalAt demo).inputs.key.level = true) ∧
    (let s := demo.onLink fun l => { l with
       onLine := some { kind := .status, attempts := 0, bytes := [0xC6, 0x12], position := 319 } }
     s.link.onLine = some ⟨.status, 0, [0xC6, 0x12], 319⟩ ∧ [0xC6, (0x12 : Byte)][319 / 160]? = some 0x12) ∧
    (let s := pump1 (fun q => { q with state := .pending })
       (demo.onInputs fun i => { i with thermal := ⟨.settled true, .settled false⟩ })
     fitted s.cfg .p1 = true ∧ s.head.supply ≠ .none ∧ (s.inputs.thermal.get .p1).level = true ∧
      (pumpOf s .p1).state = .pending) ∧
    (pumpOf (pump1 (fun q => { q with state := .fault, cause := some .noRun }) demo) .p1).state = .fault ∧
    (pumpOf (pump1 (fun q => { q with state := .resting, runPhase := .rest }) demo) .p1).state = .resting ∧
    (let s := pump1 (fun q => { q with state := .surging, reason := some .demand })
       (demo.onInputs fun i => { i with runSense := ⟨.settled true, .settled false⟩ })
     (pumpOf s .p1).state = .surging ∧ (s.inputs.runSense.get .p1).level = true ∧
      (pumpOf s .p2).state ≠ .surging) ∧
    ((pumpOf floodRunner .p1).state = .running ∧ (floodRunner.inputs.runSense.get .p1).level = true ∧
      floodRunner.stage.stage = .flood ∧
      (floodRunner.cfg.pump.get .p1).a * 1000 ≤ (pumpOf floodRunner .p1).run.count) := by decide +kernel

/-- A restart takes the stage out of FLOOD, so that a pump at its run limit is due for relief (R71, R129). -/
theorem test_restart_leaves_flood :
    (pumpOf (after (.restart 0) floodRunner) .p1).relief = true ∧
    (pumpOf (after (.restart 0) floodRunner) .p1).state = .running ∧
    (after (.restart 0) floodRunner).pumps.leftRunning = ⟨true, false⟩ := by decide +kernel

/-! ### Witnesses: the Probe Unit -/

theorem witness_CycleBeginsAndCharges :
    (demo.mode = .run ∧ demo.probes.sampleTimer.phase = .running ∧ demo.probes.a.phase = .idle ∧
      demo.probes.b.phase = .idle) ∧
    ((charging .a id demo).probes.sampleTimer.phase = .running ∧ (charging .a id demo).probes.a.phase ≠ .idle) ∧
    (dischargeProbe demo .a).probes.a.phase = .discharge ∧
    ((dischargeProbe demo .b).probes.a.phase ≠ .discharge ∧ (dischargeProbe demo .b).probes.b.phase = .discharge) := by
  decide +kernel

/-- Probe A blanked at its start count and at the top of its counter, and probe B with A IDLE. -/
theorem witness_BlankedReadingOnlyCounts :
    (∀ n ∈ [495, 4095], let s := charging .a (fun q => { q with blank := true, charge := n }) demo
     s.mode = .run ∧ (s.probes.get .a).phase = .charge ∧ (s.probes.get .a).blank = true ∧
      4095 - (probeCfg s.cfg .a).rld = 495 ∧ (s.probes.get .a).charge = n) ∧
    (let s := charging .b (fun q => { q with blank := true }) demo
     s.mode = .run ∧ (s.probes.get .b).phase = .charge ∧ s.probes.a.phase ≠ .charge ∧
      (s.probes.get .b).blank = true) ∧
    ((0 : Half) = 0 ∨ (0 : Half) = 1) := by decide +kernel

/-- The same, not blanked; probe A's counter at its start count, at T_openmin ticks less one, at T_openmin and at the
top. -/
theorem witness_ReadingIsTaken :
    (∀ n ∈ [495, 534, 535, 4095], let s := charging .a (fun q => { q with charge := n }) demo
     s.mode = .run ∧ (s.probes.get .a).phase = .charge ∧ (s.probes.get .a).blank = false ∧
      4095 - (probeCfg s.cfg .a).rld = 495 ∧ (probeCfg s.cfg .a).tOpenMin = 40 ∧ (s.probes.get .a).charge = n ∧
      ∃ t, exec (.probeTrip 4095) s = .next t ∧ t.probes.a.status = if n < 535 then .openCircuit else .ok) ∧
    (let s := charging .b id demo
     s.mode = .run ∧ (s.probes.get .b).phase = .charge ∧ s.probes.a.phase ≠ .charge ∧
      (s.probes.get .b).blank = false) := by
  refine ⟨?_, by decide +kernel⟩
  intro n h
  simp only [List.mem_cons, List.not_mem_nil, or_false] at h
  rcases h with rfl | rfl | rfl | rfl <;>
    exact ⟨by decide +kernel, by decide +kernel, by decide +kernel, by decide +kernel, by decide +kernel,
      by decide +kernel, _, rfl, by decide +kernel⟩

/-- A ring with two depths after the append, and one with fewer. -/
theorem witness_HistoryTimerAppendsAndComputesRise :
    (let s := demo.onProbes fun u => { u with ring := [none, some 140], b := { u.b with depth := some 302 } }
     s.mode = .run ∧ s.probes.historyTimer.phase = .running ∧
      (after .historyTimerExpiry s).probes.ring = [none, some 140, some 302] ∧
      (after .historyTimerExpiry s).probes.riseValid = true) ∧
    (demo.mode = .run ∧ demo.probes.historyTimer.phase = .running ∧
      ((after .historyTimerExpiry demo).probes.ring.filter Option.isSome).length < 2) := by decide +kernel

/-! ### Witnesses: the receiver -/

/-- A frame for each check of R28 to fail first, and one that fails none. -/
theorem witness_RejectedFrameIsCountedOnce :
    demo.mode = .run ∧
    verdict demo.cfg ⟨0x11, [], 0x2D4C⟩ = .crcErr ∧
    verdict demo.cfg ⟨0x71, [], 0x2667⟩ = .unknownKind ∧
    verdict demo.cfg ⟨0x11, [], 0x2D4D⟩ = .lengthErr ∧
    verdict demo.cfg ⟨0x47, [0, 0], 0xD511⟩ = .foreign ∧
    verdict demo.cfg ⟨0x41, [0x10, 0], 0xF1FB⟩ = .accepted := by decide +kernel

/-- The demo station with the assembler in a state. -/
def assembling (st : AsmState) : State :=
  demo.onLink fun l => { l with
    asm := st, buffer := { header := some 0x5F, length := some 4, payload := [2, 1, 0, 0], crc := [0xE8] } }

theorem witness_CharactersAndLineEventsMoveReceiver :
    (demo.mode = .run ∧ demo.link.onLine = none ∧ demo.link.tail = none ∧ demo.link.rx ≠ .awaitMark ∧
      demo.link.idleCounting = true ∧ demo.link.asm = .hunt ∧ demo.link.rx = .look) ∧
    ((assembling .hunt).link.asm = .hunt ∧ (assembling .header).link.asm = .header ∧
      (assembling .length).link.asm = .length ∧ (24 : Byte).toNat ≤ 24 ∧ 24 < (25 : Byte).toNat ∧
      ((assembling .payload).link.asm = .payload ∧ (assembling .payload).link.buffer.length = some 4) ∧
      (assembling .crcHigh).link.asm = .crcHigh ∧ (assembling .discard).link.asm = .discard) ∧
    ((assembling .payload).link.asm ≠ .hunt ∧ (assembling .payload).link.asm ≠ .discard) ∧
    (demo.onLink fun l => { l with rx := .awaitMark }).link.rx = .awaitMark ∧
    (demo.onLink fun l => { l with rx := .character }).link.rx = .character ∧
    (starting.mode ≠ .run ∧ starting.link.rx = .look ∧
      (starting.onLink fun l => { l with rx := .awaitMark }).link.rx ≠ .look) ∧
    (sending .status 0 demo).link.onLine ≠ none := by decide +kernel

theorem witness_LastCharacterIsTheFramesCommand :
    (assembling .crcLow).mode = .run ∧ (assembling .crcLow).link.onLine = none ∧
    (assembling .crcLow).link.tail = none ∧ (assembling .crcLow).link.rx ≠ .awaitMark ∧
    (assembling .crcLow).link.asm = .crcLow ∧
    frameCommand (assembling .crcLow) (bufferedFrame (assembling .crcLow).link.buffer 0xD9) = .query 0 := by
  decide +kernel

/-! ### Witnesses: the transmitter -/

/-- The gap at station 2: 32 bit times for a REPORT and 12 for a CLAIM, 24 more at a retry; at the gap and one short
of it. -/
theorem witness_TransmissionTakesChosenFrame :
    (let s := idleFor 56 (waiting .report 2 demo)
     s.mode = .run ∧ sendsNext s.link .report 2 ∧ gapPassed s.cfg s.link .report 2 ∧
      ¬gapPassed s.cfg (s.onLink fun l => { l with idle := 895 }).link .report 2) ∧
    (let s := idleFor 12 (waiting .claim 0 (waiting .status 0 demo))
     sendsNext s.link .claim 0 ∧ gapPassed s.cfg s.link .claim 0) ∧
    (∀ j, demo.link.slots.get j = none) ∧
    ¬gapPassed demo.cfg (sending .status 0 demo).link .status 0 := by
  refine ⟨by decide +kernel, by decide +kernel, ?_, by decide +kernel⟩
  intro j; cases j <;> rfl

theorem witness_StatusCarriesStationState :
    let s := idleFor 22 (waiting .status 0 demo)
    s.mode = .run ∧ sendsNext s.link .status 0 ∧ gapPassed s.cfg s.link .status 0 := by decide +kernel

/-- The four kinds, each with what it is gathered from. -/
theorem witness_ArbiterFramesCarryTheClaim :
    (let s := idleFor 12 (waiting .claim 0 (claiming .claimQueued .p1 .demand demo))
     s.mode = .run ∧ sendsNext s.link .claim 0 ∧ gapPassed s.cfg s.link .claim 0 ∧ servedOf s = some .p1 ∧
      (entryOf s .p1).request = some ⟨.demand, 3, .level⟩) ∧
    (let s := idleFor 12 (waiting .busy 0 (claiming .surge .p1 .demand demo))
     sendsNext s.link .busy 0 ∧ gapPassed s.cfg s.link .busy 0 ∧ s.arb.claim = .surge ∧ servedOf s = some .p1) ∧
    (let s := (idleFor 12 (waiting .done 0 demo)).onArb fun a => { a with done := some ⟨.p1, .demand, .started⟩ }
     sendsNext s.link .done 0 ∧ gapPassed s.cfg s.link .done 0 ∧ s.arb.done = some ⟨.p1, .demand, .started⟩) ∧
    (let s := (idleFor 32 (waiting .report 0 demo)).withOrder (some ⟨1, 0, .accepted, [1]⟩)
     sendsNext s.link .report 0 ∧ gapPassed s.cfg s.link .report 0 ∧ s.order = some ⟨1, 0, .accepted, [1]⟩) := by
  decide +kernel

theorem witness_CollisionRetriesAndFrameSentFreesTheLine :
    (let s := waiting .status 0 (sending .status 1 demo)
     s.mode = .run ∧ s.link.onLine = some ⟨.status, 1, [0xC6], 0⟩ ∧ (s.link.slots.get .status).isSome = true) ∧
    (let s := sending .status 1 demo
     s.link.onLine = some ⟨.status, 1, [0xC6], 0⟩ ∧ s.link.slots.get .status = none) ∧
    (let s := sending .status 2 demo
     s.link.onLine = some ⟨.status, 2, [0xC6], 0⟩ ∧ s.link.slots.get .status = none) ∧
    (let s := sending .done 2 demo
     s.link.onLine = some ⟨.done, 2, [0xC6], 0⟩ ∧ s.link.slots.get .done = none ∧ s.arb.claim = .idle) ∧
    (sending .busy 0 demo).link.onLine = some ⟨.busy, 0, [0xC6], 0⟩ ∧
    ((sending .claim 0 demo).link.onLine = some ⟨.claim, 0, [0xC6], 0⟩ ∧ demo.arb.claim ≠ .claimQueued) ∧
    (claiming .surge .p1 .demand (sending .done 0 demo)).arb.claim ≠ .idle := by decide +kernel

/-- A CLAIM on the line in CLAIM_QUEUED: sent or dropped with nothing in its way, sent after a BUSY, and sent with its
entry cancelled. -/
theorem witness_ClaimReportOpensWindowOrYields :
    (let s := sending .claim 2 (claiming .claimQueued .p1 .demand demo)
     s.mode = .run ∧ s.link.onLine = some ⟨.claim, 2, [0xC6], 0⟩ ∧ s.link.slots.claim = none ∧
      s.arb.claim = .claimQueued ∧ s.arb.cancelHeld = false ∧ servedOf s = some .p1 ∧
      (entryOf s .p1).request = some ⟨.demand, 3, .level⟩ ∧ s.head.supply ≠ .none ∧ s.arb.busyHeard = false ∧
      s.arb.claims = []) ∧
    (let s := (sending .claim 0 (claiming .claimQueued .p1 .demand demo)).onArb fun a => { a with busyHeard := true }
     s.link.onLine = some ⟨.claim, 0, [0xC6], 0⟩ ∧ s.arb.claim = .claimQueued ∧ s.arb.cancelHeld = false ∧
      servedOf s = some .p1 ∧ s.arb.busyHeard = true) ∧
    (let s := (sending .claim 0 (claiming .claimQueued .gate .lower demo)).onArb fun a => { a with cancelHeld := true }
     s.link.onLine = some ⟨.claim, 0, [0xC6], 0⟩ ∧ s.arb.claim = .claimQueued ∧ s.arb.cancelHeld = true ∧
      servedOf s = some .gate ∧ (entryOf s .gate).request = some ⟨.lower, 2, .edge⟩) := by decide +kernel

theorem witness_OwnSequenceNumber :
    (∃ t, (sending .status 0 demo).mode = .run ∧
      (sending .status 0 demo).link.onLine = some ⟨.status, 0, [0xC6], 0⟩ ∧
      exec .frameSent (sending .status 0 demo) = .next t ∧ t.peers.seq = 0) ∧
    (∃ t, exec .transmissionBegin (idleFor 22 (waiting .status 0 demo)) = .next t ∧
      sendsNext (idleFor 22 (waiting .status 0 demo)).link .status 0 ∧
      gapPassed demo.cfg (idleFor 22 (waiting .status 0 demo)).link .status 0 ∧ t.link.onLine.isSome = true) ∧
    (∃ t, exec .collision (sending .status 2 demo) = .next t ∧ t.peers.seq = 255) ∧
    (∃ t, exec (.restart 0) demo = .next t ∧ t.peers.seq = 255) :=
  ⟨⟨_, by decide +kernel, by decide +kernel, rfl, by decide +kernel⟩,
    ⟨_, rfl, by decide +kernel, by decide +kernel, by decide +kernel⟩,
    ⟨_, rfl, by decide +kernel⟩, ⟨_, rfl, by decide +kernel⟩⟩


/-! ### Witnesses: peers and the stage -/

/-- The demo station's entries hold no request, so that neither do those of a state with the same table. -/
theorem demo_held : heldOnlyServed demo := fun r => by cases r <;> decide +kernel

theorem witness_StatusPeriodAgesPeers :
    (demo.mode = .run ∧ demo.peers.timer.phase = .running) ∧
    (let s := { demo with peers := { demo.peers with entries := [peer 0 0 10 0 52 false, peer 1 254 10 0 5 true] } }
     s.mode = .run ∧ s.peers.timer.phase = .running ∧ ∀ e ∈ s.peers.entries, e.age ≠ some 3 ∧ e.age ≠ some 8) ∧
    (∃ e ∈ demo.peers.entries, e.age = some 3 ∨ e.age = some 8) ∧
    ∃ e ∈ { demo.peers with entries := [peer 1 8 320 0 5 true] }.entries, e.age = some 3 ∨ e.age = some 8 := by
  decide +kernel

/-- A FRESH peer with contents, and one that was never heard. -/
theorem witness_StatusArrivalRefreshesPeer :
    demo.mode = .run ∧ demo.cfg.roster.getLsbD 1 = true ∧ 1 ≠ demo.cfg.station ∧
    (List.replicate 15 (0 : Byte)).length = 15 ∧
    demo.peers.entries.find? (fun e => e.station == 1) = some (peer 1 3 15 5 120 true) ∧
    demo.cfg.roster.getLsbD 3 = true ∧
    demo.peers.entries.find? (fun e => e.station == 3) = some { station := 3, age := none, contents := none } := by
  decide +kernel

theorem witness_OwnNumberSetsDuplicateAndOthersOnlyCount :
    demo.mode = .run ∧ demo.cfg.roster.getLsbD 2 = true ∧ 2 = demo.cfg.station ∧ demo.peers.duplicate = false ∧
    (List.replicate 24 (0 : Byte)).length ≤ 24 ∧ demo.cfg.roster.getLsbD 1 = true ∧
    (7 : Byte).toNat ≠ demo.cfg.station := by decide +kernel

theorem witness_DuplicateStaysSet :
    let s := demo.onPeers fun t => { t with duplicate := true }
    s.mode = .run ∧ s.cfg.roster.getLsbD 2 = true ∧ 2 = s.cfg.station ∧ s.peers.duplicate = true ∧
      ([0, 0] : List Byte).length = 2 := by decide +kernel

/-- The own depth as given, the hold timer at its expiry, in a stage. -/
def descending (st : Stage) (d : Nat) : State :=
  { demo with
    probes := { demo.probes with b := { demo.probes.b with depth := some d } }
    peers := { demo.peers with entries := [] }
    stage := { stage := st, blind := false, hold := .running, holdCount := 120000 } }

/-- A descent by one step at a boundary of the hysteresis, one that is refused there, a candidate equal to the stage
and one above it. -/
theorem witness_StageHoldExpiryDescends :
    ((descending .flood 269).mode = .run ∧ (descending .flood 269).stage.hold = .running ∧
      candidateStage (descending .flood 269) = .alert ∧ deepest (descending .flood 269) = some 269 ∧
      descentAllowed (descending .flood 269) = true) ∧
    (candidateStage (descending .flood 270) = .alert ∧ descentAllowed (descending .flood 270) = false) ∧
    candidateStage (descending .alert 150) = .alert ∧ candidateStage (descending .alert 300) = .flood := by
  decide +kernel

/-- The greatest known depth at each threshold and one below; no depth, with and without a rise. -/
theorem witness_CandidateStageFollowsReports :
    [0, 19, 20, 149, 150, 299, 300].map (fun d => deepest (descending .wet d)) =
      [some 0, some 19, some 20, some 149, some 150, some 299, some 300] ∧
    riseCondition ((descending .wet 20).onProbes fun u => { u with rise := 60, riseValid := true }) = true ∧
    deepest State.reset = none ∧ riseCondition State.reset = false ∧
    (let s := State.reset.onProbes fun u => { u with rise := 0, riseValid := true }
     deepest s = none ∧ riseCondition s = true) := by decide +kernel

/-! ### Witnesses: the Headroom Unit -/

/-- Each sense line, lost from a lowering gate in its surge. -/
theorem witness_SupplyLossStopsEverything :
    (∃ s, s.mode = .run ∧ GateInv s ∧ ServedInv s ∧ s.head.supply ≠ .none ∧ s.inputs.mainsOk.level = true ∧
      s.inputs.standbyOk.level = false ∧ s.gate.state = .lowering ∧ s.cfg.portal = true ∧
      s.inputs.key.level = false ∧ s.arb.claim ≠ .claimQueued) ∧
    (let s := supplied .standby demo
     s.head.supply ≠ .none ∧ s.inputs.standbyOk.level = true ∧ s.inputs.mainsOk.level = false) := by
  refine ⟨⟨claiming .surge .gate .lower lowering, by decide +kernel, ?_, ⟨?_, ?_, ?_⟩, ?_⟩, by decide +kernel⟩
  · constructor <;> (try unfold heldInStart) <;> decide +kernel
  · decide +kernel
  · decide +kernel
  · intro r; cases r <;> decide +kernel
  · decide +kernel

/-- STANDBY_OK that comes beside the mains, the mains that give way to it, and the mains that return: to a pump with
its thermal input asserted, before and after the listen-in time; to a gate stopped by loss; in START and in
FALLBACK. -/
theorem witness_SupplyChangesAndReturns :
    heldOnlyServed (pump1 (fun q => { q with state := .running })
      ((supplied .none demo).onInputs fun i => { i with thermal := ⟨.settled true, .settled false⟩ })) ∧
    (demo.mode = .run ∧ demo.inputs.standbyOk.level = false ∧ demo.inputs.mainsOk.level = true ∧
      demo.head.supply = .mains) ∧
    (let s := demo.onInputs fun i => { i with standbyOk := .settled true }
     s.inputs.mainsOk.level = true ∧ s.inputs.standbyOk.level = true ∧ s.head.supply = .mains) ∧
    (let s := pump1 (fun q => { q with state := .running })
       ((supplied .none demo).onInputs fun i => { i with thermal := ⟨.settled true, .settled false⟩ })
     s.inputs.mainsOk.level = false ∧ s.head.supply = .none ∧ fitted s.cfg .p1 = true ∧
      thermalWatched (pumpOf s .p1).state = true ∧ (s.inputs.thermal.get .p1).level = true ∧
      (s.arb.listenIn = .elapsed ∧ { s with arb := { s.arb with listenIn := .running } }.arb.listenIn ≠ .elapsed) ∧
      s.arb.claim = .idle ∧ (entryOf s .lamps).armed = true ∧ (entryOf s .lamps).served = false ∧
      (s.onLoader fun l => { l with mode := .start }).mode ≠ .run) ∧
    (let s := supplied .none (limits false false (gateAt .lowering fun g => { g with stoppedByLoss := true }))
     s.cfg.portal = true ∧ s.gate.stoppedByLoss = true ∧ s.inputs.key.level = false ∧ s.head.supply = .none) ∧
    (fallen.mode ≠ .run ∧ starting.mode ≠ .run ∧ fallen.head.supply = .mains ∧
      (supplied .none fallen).head.supply = .none ∧
      contactorClosed (pump1 (fun q => { q with state := .running, reason := some .float }) fallen) .p1 = true ∧
      ∀ p ∈ [PumpId.p1, .p2], (fallen.inputs.thermal.get p).level = false) ∧
    (let s := (supplied .none starting).onInputs fun i => { i with thermal := ⟨.settled true, .settled false⟩ }
     s.mode = .start ∧ s.head.supply = .none ∧ fitted s.cfg .p1 = true ∧
      thermalWatched (pumpOf s .p1).state = true ∧ contactorClosed s .p1 = false ∧
      (s.inputs.thermal.get .p1).level = true ∧ contactorClosed (supplied .none leftRunning) .p1 = true) :=
  ⟨demo_held, by decide +kernel⟩

/-- Both pumps RUNNING, nothing left to shed and every peer LOST. -/
def lagCase : State :=
  let s := supplied .standby shedCase
  { s with
    loader := { s.loader with cfg := { s.cfg with aLost := 1000 } }
    head := { s.head with scale := 64 }
    peers := { s.peers with entries := [peer 5 9 0 0 0 true] }
    pumps := { s.pumps with pump := ⟨s.pumps.pump.p1, s.pumps.pump.p1⟩, later := some .p2, lagDemand := true } }

/-- A shed; a lag shed; no supply; a recovery with just enough headroom. -/
theorem witness_BudgetEvaluationStepsScale :
    (let s := supplied .standby shedCase
     s.mode = .run ∧ s.head.timer.phase = .running ∧ headroomOf s < 0 ∧ shedCondition s = true) ∧
    (headroomOf lagCase < 0 ∧ lagCase.mode = .run ∧ lagCase.head.timer.phase = .running ∧
      lagCase.head.supply ≠ .none ∧ shedCondition lagCase = false ∧ usablePeers lagCase = [] ∧
      lagRunning lagCase = true ∧ lagCase.pumps.later = some .p2 ∧
      (pumpOf lagCase .p2).reason ≠ some .float) ∧
    (supplied .none shedCase).head.supply = .none ∧
    (let s := shedCase.onHead fun h => { h with scale := 64 }
     (s.cfg.mr : Int) ≤ headroomOf s ∧ s.head.scale < 256) := by decide +kernel

/-- The listen-in running, or over with a claim out or nothing pending; a headroom that is not negative. -/
theorem witness_HeadroomIsCapacityLessDraws :
    (let s := demo.onArb fun a => { a with listenIn := .running }
     s.mode = .run ∧ s.head.timer.phase = .running ∧ s.arb.listenIn ≠ .elapsed ∧ s.arb.claim = .idle) ∧
    (demo.arb.listenIn = .elapsed ∧ (∀ r ∈ tieOrder, (entryOf demo r).pending = false) ∧ 0 ≤ headroomOf demo ∧
      (claiming .claimWait .p1 .demand demo).arb.claim ≠ .idle) := by
  decide +kernel

/-! ### Witnesses: the Start Arbiter -/

/-- The listen-in time at its end, with two requests pending. -/
def listening2 : State :=
  demo.onArb fun a => { a with
    listenIn := .running, listenCount := 3000
    table := { a.table with
      p1 := { a.table.p1 with pending := true, request := some ⟨.demand, 3, .level⟩ }
      p2 := { a.table.p2 with pending := true, request := some ⟨.demand, 5, .level⟩ } } }

/-- A first candidate that passes, none that passes, and a claim of a peer in the way. -/
theorem witness_ListenInExpirySelects :
    (listening2.mode = .run ∧ listening2.arb.listenIn = .running ∧ listening2.arb.claim = .idle ∧
      listening2.arb.claims = [] ∧ listening2.link.slots.done = none ∧ listening2.link.onLine = none ∧
      (entryOf listening2 .p1).pending = true ∧ masked listening2 .p1 = false ∧
      (surgeDrawOf listening2 .p1 : Int) ≤ headroomOf listening2) ∧
    (let s := { listening2 with loader := { listening2.loader with cfg := { demoCfg with cMains := 400 } } }
     s.head.supply ≠ .none ∧ headroomOf s < (surgeDrawOf s .p1 : Int) ∧ headroomOf s < (surgeDrawOf s .p2 : Int)) ∧
    { listening2 with arb := { listening2.arb with claims := [⟨1, 1, 0, 3, 275, 0⟩] } }.arb.claims ≠ [] := by
  decide +kernel

/-- A pump, the gate both ways and the lamps at the end of the window; a pump that no longer wants its start. -/
theorem witness_ClaimWindowBeginsSurge :
    (let s := pump1 (fun q => { q with state := .claiming, reason := some .demand })
       ((claiming .claimWait .p1 .demand demo).onPumps fun c => { c with leadDemand := true })
     s.mode = .run ∧ s.arb.claim = .claimWait ∧ servedOf s = some .p1 ∧
      (entryOf s .p1).request = some ⟨.demand, 3, .level⟩ ∧ called s .p1 = true ∧
      (pumpOf s .p1).state = .claiming) ∧
    (let s := claiming .claimWait .gate .lower (atStage .flood (limits false false (gateAt .lowerPending)))
     servedOf s = some .gate ∧ s.gate.state = .lowerPending) ∧
    (let s := claiming .claimWait .gate .raise (limits false false (gateAt .raisePending))
     servedOf s = some .gate ∧ s.gate.state = .raisePending) ∧
    (let s := { (claiming .claimWait .lamps .relight demo) with lamps := { demo.lamps with bank := .dark } }
     servedOf s = some .lamps ∧ s.lamps.bank = .dark) ∧
    (servedOf (claiming .claimWait .lamps .relight demo) = some .lamps ∧ demo.lamps.bank = .lit) ∧
    (servedOf (claiming .claimWait .gate .raise demo) = some .gate ∧ demo.gate.state = .atOpen) ∧
    (let s := claiming .claimWait .p1 .demand demo
     servedOf s = some .p1 ∧ called s .p1 = false ∧ (entryOf s .p1).held = none) := by decide +kernel

/-- P1 at the end of its surge, with its run-sense. -/
def surging (p : PumpReason) (q : Reason) : State :=
  (pump1 (fun x => { x with state := .surging, reason := some p }) (claiming .surge .p1 q demo)).onInputs fun i =>
    { i with runSense := ⟨.settled true, .settled true⟩ }

/-- The same at the end of a handover, its partner RUNNING with relief due. -/
def relieving : State :=
  pump2 (fun x => { x with state := .running, reason := some .demand, relief := true, run := .fromZero })
    ((surging .handover .handover).onPumps fun c => { c with leadDemand := true, lead := .p2, later := some .p2 })

/-- The lamps, and a pump for each reason: called and no longer called, with and without its run-sense; a handover
with one pump wanted, with a rest time and without one, and with two wanted. -/
theorem witness_SurgeTimerEndsClaim :
    reliefOnlyRunning relieving ∧
    (relighting.mode = .run ∧ relighting.arb.claim = .surge ∧ servedOf relighting = some .lamps ∧
      (entryOf relighting .lamps).request = some ⟨.relight, 5, .edge⟩ ∧ relighting.lamps.bank = .relighting) ∧
    (let s := surging .exercise .exercise
     s.mode = .run ∧ servedOf s = some .p1 ∧ (entryOf s .p1).request = some ⟨.exercise, 6, .edge⟩ ∧
      (pumpOf s .p1).state = .surging ∧ (pumpOf s .p1).relief = false ∧ (pumpOf s .p2).relief = false ∧
      (s.inputs.runSense.get .p1).level = true ∧ called s .p1 = false ∧
      called (s.onPumps fun c => { c with leadDemand := true }) .p1 = true ∧
      ((s.onInputs fun i => { i with runSense := ⟨.settled false, .settled false⟩ }).inputs.runSense.get .p1).level =
        false ∧ ∀ p ∈ [PumpId.p1, .p2], (s.inputs.thermal.get p).level = false) ∧
    (let s := surging .demand .demand
     (pumpOf s .p1).reason = some .demand ∧ wantedCount s = 0 ∧ called s .p1 = false ∧
      called (s.onPumps fun c => { c with leadDemand := true }) .p1 = true) ∧
    (servedOf relieving = some .p1 ∧ (pumpOf relieving .p1).state = .surging ∧
      (pumpOf relieving .p1).reason = some .handover ∧ (pumpOf relieving .p1).relief = false ∧
      (pumpOf relieving .p2).state = .running ∧ (pumpOf relieving .p2).relief = true ∧
      fitted relieving.cfg .p1 = true ∧ fitted relieving.cfg .p2 = true ∧ wantedCount relieving = 1 ∧
      restLimitMs relieving.cfg .p2 ≠ 0) ∧
    wantedCount (relieving.onPumps fun c => { c with lagDemand := true }) = 2 ∧
    (let s := relieving.onLoader fun l =>
       { l with cfg := { l.cfg with pump := ⟨demoPump, { demoPump with b := 0 }⟩ } }
     wantedCount s = 1 ∧ restLimitMs s.cfg .p2 = 0) ∧
    (let s := pump2 (fun x => { x with state := .running, reason := some .exercise })
       ((surging .exercise .exercise).onPumps fun c => { c with leadDemand := true, lead := .p2 })
     called s .p1 = false ∧ called s .p2 = true ∧ (pumpOf s .p2).state = .running ∧
      (pumpOf s .p2).reason = some .exercise ∧ (pumpOf s .p2).relief = false) := by
  refine ⟨?_, by decide +kernel⟩
  intro p; cases p <;> decide +kernel

/-- The gate CLOSED with its reopen timer running, while another entry of a greater level is served. -/
def reopening (cl : ClaimState) (o : Requester) (q : Reason) : State :=
  (claiming cl o q (limits true false (gateAt .closed fun g =>
    { g with reopen := .fromZero, dwell := .cleared }))).onLoader fun l => { l with cfg := { l.cfg with lvRaise := 1 } }

/-- The lamps and a called pump that lose the mark, and a cancelled entry of a pump in FAULT that holds no other
request and one that does; the start test passed and failed. -/
theorem witness_SubstitutionMovesServedMark :
    (∃ s, s = reopening .claimQueued .lamps .relight ∧ s.mode = .run ∧ s.cfg.portal = true ∧ ServedInv s ∧
      s.gate.reopen.phase = .running ∧ s.gate.state = .closed ∧ s.gate.holdClosed = false ∧
      s.inputs.key.level = false ∧ s.arb.claim = .claimQueued ∧ servedOf s = some .lamps ∧
      (entryOf s .lamps).request = some ⟨.relight, 5, .edge⟩ ∧ (entryOf s .gate).armed = true ∧
      (entryOf s .gate).pending = false ∧ (entryOf s .gate).mask = false ∧
      s.cfg.lvRaise ≤ stageFloor s.stage.stage ∧ s.cfg.lvRaise < 5 ∧ (entryOf s .lamps).held = none ∧
      s.head.supply ≠ .none ∧ (surgeDrawOf s .gate : Int) ≤ headroomOf s) ∧
    (let s := (pump1 (fun q => { q with state := .claiming, reason := some .demand })
         (reopening .claimWait .p1 .demand)).onPumps fun c => { c with leadDemand := true }
     s.arb.claim = .claimWait ∧ servedOf s = some .p1 ∧ (entryOf s .p1).request = some ⟨.demand, 3, .level⟩ ∧
      s.cfg.lvRaise < 3 ∧ (pumpOf s .p1).state = .claiming ∧ called s .p1 = true ∧ (entryOf s .p1).held = none ∧
      s.arb.cancelHeld = false) ∧
    (let s := (pump1 (fun q => { q with state := .fault, cause := some .thermal })
         (reopening .claimQueued .p1 .demand)).onArb fun a => { a with cancelHeld := true }
     s.arb.cancelHeld = true ∧ (pumpOf s .p1).state = .fault ∧ (entryOf s .p1).held = none ∧
      (entryOf (s.onArb fun a => { a with
        table := a.table.upd .p1 fun e => { e with held := some ⟨.exercise, 6, .edge⟩ } }) .p1).held =
        some ⟨.exercise, 6, .edge⟩) ∧
    (let s := (reopening .claimQueued .lamps .relight).onLoader fun l => { l with cfg := { l.cfg with cMains := 300 } }
     s.head.supply ≠ .none ∧ headroomOf s < (surgeDrawOf s .gate : Int)) := by
  refine ⟨⟨_, rfl, by decide +kernel, by decide +kernel, ⟨?_, ?_, ?_⟩, ?_⟩, by decide +kernel, by decide +kernel,
    by decide +kernel⟩
  · decide +kernel
  · decide +kernel
  · intro r; cases r <;> decide +kernel
  · decide +kernel

/-- A superior and an inferior claim, ties on both sides of the own number, and a CLAIM still in its slot. -/
theorem witness_ClaimArrivalRecordsAndYields :
    (demo.mode = .run ∧ demo.cfg.roster.getLsbD 1 = true ∧ 1 ≠ demo.cfg.station ∧
      demo.cfg.roster.getLsbD 3 = true ∧ 3 ≠ demo.cfg.station ∧ ([0x10, 3, 1, 19] : List Byte).length = 4) ∧
    demo.arb.claim = .idle ∧
    (let s := claiming .claimWait .p1 .demand demo
     s.arb.claim = .claimWait ∧ servedOf s = some .p1 ∧ (entryOf s .p1).request = some ⟨.demand, 3, .level⟩ ∧
      1 < s.cfg.station ∧ s.cfg.station < 3) ∧
    (claiming .surge .p1 .demand demo).arb.claim = .surge ∧
    (let s := waiting .claim 0 (claiming .claimQueued .p1 .demand demo)
     s.arb.claim = .claimQueued ∧ servedOf s = some .p1 ∧ s.link.slots.claim.isSome = true) ∧
    (claiming .claimQueued .p1 .demand demo).link.slots.claim = none := by decide +kernel

theorem witness_BusyRefreshesAndDoneRemoves :
    (heardClaims.mode = .run ∧ heardClaims.cfg.roster.getLsbD 1 = true ∧ 1 ≠ heardClaims.cfg.station ∧
      ([0x10, 0, 0] : List Byte).length = 3 ∧ ([0x10, 0] : List Byte).length = 2 ∧
      (∃ x ∈ heardClaims.arb.claims, x.station = 1) ∧
      (heardClaims.arb.claims.filter fun c => c.station != 1) ≠ [] ∧ heardClaims.arb.claim = .idle) ∧
    (let s := claiming .claimWait .p1 .demand heardClaims
     s.arb.claim = .claimWait ∧ servedOf s = some .p1 ∧
      (entryOf s .p1).request = some ⟨.demand, 3, .level⟩) ∧
    (let s := claiming .claimQueued .p1 .demand heardClaims
     s.arb.claim = .claimQueued ∧ servedOf s = some .p1 ∧ s.link.slots.claim = none ∧
      (waiting .claim 0 s).link.slots.claim.isSome = true) ∧
    (heardClaims.arb.claims.filter fun c => c.station != 0) ≠ [] ∧ demo.arb.claims = [] := by decide +kernel

/-! ### Witnesses: the pumps -/

/-- P1 left RUNNING by a warm restart, not called, beyond its run limit. -/
def leftOn : State :=
  (pump1 (fun q => { q with state := .running, reason := some .demand, run := ⟨.running, 3600000⟩ }) demo).onPumps
    fun c => { c with leftRunning := ⟨true, false⟩ }

/-- The run limit does not stop it; the first reading that judges the latches does (R119, R138, log 20). -/
theorem test_runLimitExpiry_leaves_running :
    (pumpOf (after (.runLimitExpiry .p1) leftOn) .p1).state = .running ∧
    (pumpOf (after (.probeTrip 4095) (charging .a (fun q => { q with charge := 700 }) leftOn)) .p1).state = .off := by
  decide +kernel

theorem demo_pumpRequests : PumpRequestsInv (charging .a (fun q => { q with charge := 2500 }) demo) := by
  constructor
  · intro p; cases p <;> decide +kernel
  · intro p; cases p <;> decide +kernel
  · intro p; cases p <;> decide +kernel
  · intro p h; cases p <;> exact absurd h (by decide +kernel)
  · decide +kernel
  · intro p; cases p <;> decide +kernel

/-- A sump depth of 500 mm that a reading brings, a roadway depth with the sump depth UNKNOWN, and a stage that steps
down; pumps in which a demand decides; a pump left RUNNING. -/
theorem witness_PumpsFollowLatchesAndCalls :
    (heldOnlyServed (charging .a (fun q => { q with charge := 2500 }) demo) ∧
      PumpRequestsInv (charging .a (fun q => { q with charge := 2500 }) demo)) ∧
    (let s := charging .a (fun q => { q with charge := 2500 }) demo
     s.mode = .run ∧ s.probes.a.phase = .charge ∧
      (after (.probeTrip 4095) s).probes.a.depth ≠ s.probes.a.depth ∧
      (after (.probeTrip 4095) s).pumps.leadDemand = true) ∧
    (let s := charging .b (fun q => { q with charge := 2335 }) demo
     s.probes.b.phase = .charge ∧ s.probes.a.depth = none ∧
      (after (.probeTrip 4095) s).probes.b.depth ≠ s.probes.b.depth) ∧
    (let s := descending .flood 269
     s.stage.hold = .running ∧ (after .stageHoldExpiry s).stage.stage ≠ s.stage.stage) ∧
    (∀ p ∈ [PumpId.p1, .p2], (pumpOf demo p).relief = false ∧ (demo.inputs.thermal.get p).level = false ∧
      demo.stage.stage ≠ .dry ∧ demo.stage.stage ≠ .flood ∧
      (pumpOf demo p).run.count < (demo.cfg.pump.get p).a * 1000) ∧
    (let s := demo.onPumps fun c => { c with leadDemand := true }
     called s .p1 = true ∧ called s .p2 = false ∧
      called (pump1 (fun q => { q with state := .inhibited }) s) .p2 = true) ∧
    (leftOn.mode = .run ∧ leftOn.pumps.leftRunning.get .p1 = true ∧ (pumpOf leftOn .p1).state = .running ∧
      called leftOn .p1 = false ∧ (pumpOf leftOn .p1).reason = some .demand) :=
  ⟨⟨demo_held, demo_pumpRequests⟩, by decide +kernel⟩

/-- P1 RUNNING for DEMAND, called, with its timers running. -/
def running : State :=
  (pump1 (fun q => { q with
    state := .running, reason := some .demand, run := .fromZero, runSense := .fromZero,
    exercise := .cleared }) demo).onPumps
    fun c => { c with leadDemand := true, later := some .p1 }

theorem witness_RunSenseWatchesRunning :
    ((running.inputs.runSense.get .p1).level = !true) ∧ running.mode ≠ .start ∧
    (pumpOf running .p1).state = .running ∧ (pumpOf running .p1).runSense.phase = .running ∧
    running.pumps.lead = .p1 ∧ fitted running.cfg PumpId.p1.other = true ∧
    (pumpOf running PumpId.p1.other).state = .off ∧ (running.inputs.thermal.get PumpId.p1.other).level = false := by
  decide +kernel

/-- P1 in FAULT with cause THERMAL, released, its release timer running. -/
def thermalFault : State :=
  pump1 (fun q => { q with state := .fault, cause := some .thermal, thermal := .fromZero }) demo

theorem witness_ThermalInputFaultsAndReleases :
    ((running.inputs.thermal.get .p1).level = false ∧ fitted running.cfg .p1 = true ∧
      running.head.supply ≠ .none ∧ (pumpOf running .p1).state = .running) ∧
    ((thermalFault.inputs.thermal.get .p1).level = false ∧ (pumpOf thermalFault .p1).state = .fault ∧
      (pumpOf thermalFault .p1).cause = some .thermal ∧ (pumpOf thermalFault .p1).thermal.phase = .running) ∧
    (thermalFault.onLoader fun l => { l with mode := .fallback }).mode = .fallback ∧ thermalFault.mode ≠ .start ∧
    (let s := running.onLoader fun l => { l with mode := .start }
     s.mode = .start ∧ contactorClosed s .p1 = true ∧ (s.inputs.thermal.get .p1).level = !true) ∧
    (starting.mode = .start ∧ (pumpOf starting .p1).state = .off ∧ contactorClosed starting .p1 = false ∧
      (starting.inputs.thermal.get .p1).level = false ∧ starting.head.supply ≠ .none) := by decide +kernel

/-- A pump left RUNNING keeps its contactor closed in START, and is in FAULT from the entry to RUN on (R126, R138,
log 29). -/
theorem test_thermalInputChange_in_start :
    let s := after (.thermalInputChange .p1 true) (running.onLoader fun l => { l with mode := .start, reading := true })
    (pumpOf s .p1).state = .running ∧ (pumpOf (enterRun s demoImage) .p1) = faultedPump .thermal ∧
      (enterRun s demoImage).pumps.lead = .p2 := by decide +kernel

/-- A claiming pump that faults while its CLAIM is on the line drops the request it holds (R126). -/
theorem test_thermalInputChange_drops_held :
    let s := (sending .claim 0 (pump1 (fun q => { q with state := .claiming, reason := some .demand })
      (claiming .claimQueued .p1 .demand demo))).onArb fun a => { a with
        table := a.table.upd .p1 fun e => { e with held := some ⟨.demand, 3, .level⟩ } }
    (entryOf (after (.thermalInputChange .p1 true) s) .p1).served = true ∧
    (entryOf (after (.thermalInputChange .p1 true) s) .p1).held = none ∧
    (after (.thermalInputChange .p1 true) s).arb.cancelHeld = true := by decide +kernel

theorem witness_RunLimitAsksReliefAndRestEnds :
    heldOnlyServed running ∧
    (running.mode = .run ∧ (pumpOf running .p1).state = .running ∧ (pumpOf running .p1).reason = some .demand ∧
      running.stage.stage ≠ .flood ∧ runLimitMs running.cfg .p1 ≠ 0 ∧ called running .p1 = true ∧
      wantedCount running = 1 ∧ fitted running.cfg .p2 = true ∧ (pumpOf running .p2).state = .off ∧
      (entryOf running (pumpRequester .p2)).served = false) ∧
    (let s := pump1 (fun q => { q with state := .resting, runPhase := .rest, run := .fromZero }) demo
     (pumpOf s .p1).state = .resting ∧ (s.inputs.thermal.get .p1).level = false) := ⟨demo_held, by decide +kernel⟩

theorem witness_ExerciseIsPostedAndEnds :
    heldOnlyServed (atStage .dry (pump1 (fun q => { q with exercise := .fromZero }) demo)) ∧
    (let s := atStage .dry (pump1 (fun q => { q with exercise := .fromZero }) demo)
     s.mode = .run ∧ wantedCount s = 0 ∧ fitted s.cfg .p1 = true ∧ (pumpOf s .p1).state = .off ∧
      (pumpOf s .p1).exercise.phase = .running ∧ s.stage.stage = .dry ∧
      (entryOf s (pumpRequester .p1)).armed = true ∧ (entryOf s (pumpRequester .p1)).served = false) ∧
    (let s := pump1 (fun q => { q with state := .running, reason := some .exercise, exercise := .fromZero }) demo
     wantedCount s = 0 ∧ (pumpOf s .p1).state = .running ∧ (pumpOf s .p1).reason = some .exercise ∧
      (pumpOf s .p1).exercise.phase = .running ∧ (s.inputs.thermal.get .p1).level = false) :=
  ⟨demo_held, by decide +kernel⟩

/-- The float up, its timer running. -/
def floating : State :=
  (demo.onInputs fun i => { i with float := .settled true }).onPumps fun c => { c with floatTimer := .fromZero }

/-- P1 claims for EXERCISE with its CLAIM on the line and is called for DEMAND, which its entry holds. -/
def floatClaim : State :=
  ((pump1 (fun q => { q with state := .claiming, reason := some .exercise })
    (sending .claim 0 (claiming .claimQueued .p1 .exercise floating))).onPumps
      fun c => { c with leadDemand := true }).onArb fun a => { a with
        table := a.table.upd .p1 fun e => { e with held := some ⟨.demand, 3, .level⟩ } }

/-- A float start leaves the pump no request, though it is called and its cancelled entry is served on (R131). -/
theorem test_floatTimerExpiry_drops_requests :
    let t := after .floatTimerExpiry floatClaim
    (pumpOf t .p1).reason = some .float ∧ called t .p1 = true ∧ (entryOf t .p1).served = true ∧
      t.arb.cancelHeld = true ∧ (entryOf t .p1).held = none := by decide +kernel

theorem witness_FloatStartsAndStopsPumps :
    (ServedInv floatClaim ∧ heldOnlyServed floatClaim ∧ floatStartable floatClaim .p1 = true ∧
      floatClaim.pumps.lead = .p1 ∧ floatClaim.mode ≠ .start ∧ floatClaim.head.supply ≠ .none ∧
      floatClaim.pumps.floatTimer.phase = .running) ∧
    (demo.mode ≠ .start ∧ demo.inputs.float.level = false) ∧
    (let s := pump1 (fun q => { q with state := .running, reason := some .float }) floating
     s.inputs.float.level = true ∧ wantedCount s = 0 ∧ (pumpOf s .p1).state = .running ∧
      (pumpOf s .p1).reason = some .float ∧ (s.inputs.thermal.get .p1).level = false) ∧
    (floating.pumps.floatTimer.phase = .running ∧ floating.head.supply ≠ .none ∧ floatStartable floating .p1 = true ∧
      floating.pumps.lead = .p1) ∧
    (let s := pump1 (fun q => { q with state := .inhibited }) floating
     floatStartable s .p2 = true ∧ floatStartable s s.pumps.lead = false) ∧
    (supplied .none floating).head.supply = .none ∧
    (let s := pump1 (fun q => { q with state := .claiming, reason := some .demand })
       (claiming .claimWait .p1 .demand floating)
     s.mode = .run ∧ floatStartable s .p1 = true ∧ s.pumps.lead = .p1 ∧ (pumpOf s .p1).state = .claiming ∧
      s.arb.claim = .claimWait ∧ servedOf s = some .p1) ∧
    (let s := pump1 (fun q => { q with state := .surging, reason := some .float, floatSurge := .fromZero }) floating
     (pumpOf s .p1).state = .surging ∧ (pumpOf s .p1).floatSurge.phase = .running ∧
      (s.inputs.runSense.get .p1).level = false ∧ (pumpOf s .p1).relief = false ∧ s.inputs.float.level = true ∧
      ((s.onInputs fun i => { i with runSense := ⟨.settled true, .settled false⟩ }).inputs.runSense.get .p1).level =
        true) ∧
    (let s := (pump1 (fun q => { q with state := .surging, reason := some .float, floatSurge := .fromZero })
       demo).onInputs fun i => { i with runSense := ⟨.settled true, .settled false⟩ }
     (pumpOf s .p1).state = .surging ∧ (pumpOf s .p1).floatSurge.phase = .running ∧
      (s.inputs.runSense.get .p1).level = true ∧ (pumpOf s .p1).relief = false ∧ s.inputs.float.level = false ∧
      (s.inputs.thermal.get .p1).level = false ∧ wantedCount s = 0 ∧
      called (s.onPumps fun c => { c with leadDemand := true }) .p1 = true) := by
  refine ⟨⟨⟨?_, ?_, ?_⟩, ?_, by decide +kernel⟩, by decide +kernel⟩
  · decide +kernel
  · decide +kernel
  · intro r; cases r <;> decide +kernel
  · intro r; cases r <;> decide +kernel

/-! ### Witnesses: the lamps -/

theorem witness_LampChannelsFollowClocks :
    demo.lamps.pwmRunning = true ∧
    ((demo.cfg.channel.get .ch0).role ≠ 0 ∧ 0 < demo.lamps.applied.get .ch0 ∧ demo.lamps.applied.get .ch0 < 4095) ∧
    (let s := demo.onLamps fun l => { l with flash := .off, warning := true }
     s.mode ≠ .start ∧ s.lamps.flash ≠ .stopped ∧ (s.cfg.channel.get .ch2).role = 2 ∧ s.lamps.bank ≠ .dark ∧
      s.lamps.test.phase ≠ .running) ∧
    (demo.inputs.daylight.level = !true ∧ demo.mode = .run ∧ (demo.cfg.channel.get .ch0).role = 1 ∧
      demo.lamps.bank ≠ .dark) ∧
    starting.mode = .start ∧ fallen.mode = .fallback := by decide +kernel

theorem witness_LampTestSetsAndRestoresDuties :
    demo.mode = .run ∧ demo.lamps.warning = false ∧ demo.lamps.bank = .lit ∧
    (demo.onLamps fun l => { l with warning := true }).lamps.warning = true ∧
    (demo.onLamps fun l => { l with bank := .relighting }).lamps.bank ≠ .lit ∧
    (demo.onLamps fun l => { l with test := .fromZero }).lamps.test.phase = .running := by decide +kernel

/-! ### Witnesses: the gate -/

/-- The station with a loop occupied that is alone in the interlock's way, its stuck timer running. -/
def stuckLoop : State :=
  let s := occupied (gateAt .closed fun g => { g with
    dwell := .cleared, stuck := ⟨{ timer := .fromZero, fault := false }, .atReset⟩ })
  s.onLoader fun l => { l with cfg := { l.cfg with stuckOverride := true } }

theorem witness_LoopsHoldTheGate :
    (demo.mode = .run ∧ demo.cfg.portal = true ∧ (demo.inputs.loop.get .loop1).level = !true ∧
      loopsClear demo = true ∧ loopsClear (after (.loopChange .loop1 true) demo) = false) ∧
    (loopsClear (occupied demo) = false ∧ loopsClear (after (.loopChange .loop1 false) (occupied demo)) = true) ∧
    loopsClear (after (.loopChange .loop2 true) (occupied demo)) = loopsClear (occupied demo) ∧
    (lowering.gate.state = .lowering ∧ lowering.inputs.key.level = false) ∧
    (keyLocalAt lowering).gate.motor = .down ∧
    ((stuckLoop.gate.stuck.get .loop1).timer.phase = .running ∧ (stuckLoop.inputs.loop.get .loop1).level = true ∧
      loopsClear stuckLoop = false ∧ loopsClear (after (.stuckTimerExpiry .loop1) stuckLoop) = true) := by
  decide +kernel

/-- A gate in a state with all its timers running. -/
def timed (st : GateState) (dwell : Timer) : State :=
  limits false false (gateAt st fun g => { g with
    warning := .fromZero, dwell := dwell, blocked := .fromZero, travel := .fromZero, reopen := .fromZero,
    localSurge := .fromZero })

theorem witness_GateTimersMoveGate :
    heldOnlyServed (timed .warning ⟨.atLimit, 5000⟩) ∧
    ((timed .warning ⟨.atLimit, 5000⟩).mode = .run ∧ (timed .warning ⟨.atLimit, 5000⟩).cfg.portal = true ∧
      (timed .warning ⟨.atLimit, 5000⟩).gate.warning.phase = .running ∧
      (entryOf (timed .warning ⟨.atLimit, 5000⟩) .gate).armed = true ∧
      (entryOf (timed .warning ⟨.atLimit, 5000⟩) .gate).served = false) ∧
    (let s := (timed .warning .cleared).onGate fun g => { g with blocked := .cleared }
     s.gate.dwell.phase ≠ .atLimit ∧ s.gate.blocked = .cleared) ∧
    ((timed .holding .fromZero).gate.dwell.phase = .running ∧ (timed .holding .fromZero).inputs.key.level = false) ∧
    ((timed .closed .cleared).gate.reopen.phase = .running ∧ (timed .closed .cleared).gate.holdClosed = false) ∧
    (let s := (timed .closed .cleared).onGate fun g => { g with holdClosed := true }
     s.gate.reopen.phase = .running ∧ s.gate.holdClosed = true) ∧
    (timed .lowering .cleared).gate.travel.phase = .running ∧
    (timed .lowering .cleared).gate.localSurge.phase = .running ∧
    (timed .holding .cleared).gate.blocked.phase = .running := ⟨demo_held, by decide +kernel⟩

theorem witness_LimitSwitchesEndTravel :
    ((limits false false (gateAt .lowering)).mode = .run ∧ demo.cfg.portal = true ∧ demo.inputs.key.level = false ∧
      (limits false false (gateAt .lowering)).inputs.limDown.level = false ∧
      (limits false false (gateAt .lowering)).inputs.limUp.level = false ∧
      (gateAt .lowering).gate.state ≠ .fault) ∧
    ((limits false true (gateAt .lowering)).inputs.limUp.level = true ∧
      (limits false true (gateAt .lowering)).inputs.limDown.level = false) ∧
    (limits true false (gateAt .raising)).inputs.limDown.level = true ∧
    (limits false false (gateAt .raising)).inputs.limUp.level = false ∧
    ((limits true false (gateAt .closed)).inputs.limDown.level = !false) ∧
    ((limits false true (gateAt .fault)).inputs.limUp.level = !false) ∧
    (gateAt .fault).gate.state = .fault ∧
    (let s := keyLocalAt (limits false false (gateAt .lowering fun g => { g with motor := .down }))
     s.inputs.key.level = true ∧ s.gate.state ≠ .fault ∧ s.inputs.limDown.level = !true ∧
      s.inputs.limUp.level = false ∧ s.gate.motor = .down) ∧
    (let s := keyLocalAt (limits true false (gateAt .raising fun g => { g with motor := .up }))
     s.inputs.limUp.level = !true ∧ s.inputs.limDown.level = !false ∧ s.gate.motor = .up) := by decide +kernel

/-- Under LOCAL: at rest, with the loops occupied, at the DOWN limit, and with the motor on either way. -/
theorem witness_KeyAndButtonsMoveGate :
    (demo.mode = .run ∧ demo.cfg.portal = true ∧ demo.inputs.key.level = false) ∧
    (let s := keyLocalAt (limits false false (gateAt .lowerPaused))
     s.inputs.key.level = true ∧ s.gate.state ≠ .fault ∧ s.head.supply ≠ .none ∧ s.gate.motor = .off ∧
      loopsClear s = true ∧ s.inputs.limDown.level = false ∧ s.inputs.limUp.level = false ∧
      loopsClear (occupied s) = false) ∧
    (keyLocalAt (limits true false (gateAt .closed))).inputs.limDown.level = true ∧
    (keyLocalAt demo).inputs.limUp.level = true ∧
    (keyLocalAt (limits false false (gateAt .raising fun g => { g with motor := .up }))).gate.motor = .up ∧
    (keyLocalAt (limits false false (gateAt .lowering fun g => { g with motor := .down }))).gate.motor = .down ∧
    (gateAt .fault).gate.state = .fault ∧ (supplied .none demo).head.supply = .none := by decide +kernel

/-! ### Witnesses: the orders -/

theorem witness_GateOrdersFollowFigure :
    (demo.mode = .run ∧ demo.cfg.portal = true ∧ demo.inputs.key.level = false ∧ demo.gate.state ≠ .fault) ∧
    (bay.mode = .run ∧ bay.cfg.portal = false) ∧ (keyLocalAt demo).inputs.key.level = true ∧
    (gateAt .fault).gate.state = .fault ∧
    ((atStage .flood demo).stage.stage = .flood ∧ demo.stage.stage ≠ .flood ∧ demo.gate.holdClosed = false) ∧
    (let s := limits true true (gateAt .fault fun g => { g with cause := some .limits })
     s.gate.cause = some .limits ∧ s.inputs.limUp.level = true ∧ s.inputs.limDown.level = true) ∧
    (let s := limits true false (gateAt .fault fun g => { g with cause := some .travel })
     s.gate.cause ≠ some .limits ∧ s.inputs.limUp.level = false ∧ s.inputs.limDown.level = true ∧
      s.gate.motor = .off ∧ (keyLocalAt s).inputs.key.level = true) ∧
    (let s := limits false true (gateAt .fault fun g => { g with cause := some .travel })
     s.gate.cause ≠ some .limits ∧ s.inputs.limUp.level = true ∧ s.inputs.limDown.level = false ∧
      (s.onGate fun g => { g with closeOrder := true }).gate.closeOrder = true) ∧
    (let s := gateAt .closed fun g => { g with reopen := ⟨.atLimit, 60000⟩, holdClosed := true }
     s.gate.state = .closed ∧ s.gate.reopen.phase = .atLimit) := by decide +kernel

/-- A station with one pump. -/
def bayOne : State := bay.onLoader fun l => { l with cfg := { l.cfg with pumpCount := 1 } }

theorem witness_PumpOrdersInhibitAndRestore :
    (demo.mode = .run ∧ fitted demo.cfg .p1 = true ∧ fitted demo.cfg .p2 = true ∧ (0 : Half) ≠ 1 ∧ (0 : Half) ≠ 2 ∧
      (pumpOf demo .p1).state ≠ .inhibited ∧ fitted bayOne.cfg .p2 = false) ∧
    (let s := pump2 (fun q => { q with state := .inhibited }) demo
     (pumpOf s .p2).state = .inhibited ∧ (s.inputs.thermal.get .p2).level = false ∧
      ((s.onInputs fun i => { i with thermal := ⟨.settled false, .settled true⟩ }).inputs.thermal.get .p2).level =
        true ∧ s.head.supply ≠ .none ∧ (supplied .none s).head.supply = .none) ∧
    ((pumpOf thermalFault .p1).state = .fault ∧ (thermalFault.inputs.thermal.get .p1).level = false) ∧
    ((thermalFault.onInputs fun i => { i with thermal := ⟨.settled true, .settled false⟩ }).inputs.thermal.get
      .p1).level = true := by decide +kernel

/-- Arguments and codes at the ends of their ranges; a claim list past page 2; peers of each freshness. -/
theorem witness_ReadingOrdersReport :
    (demo.mode = .run ∧ (0 : Half).toNat = 0 ∧ 0 < (1 : Half).toNat ∧ (4 : Half).toNat ≤ 4 ∧ 4 < (5 : Half).toNat ∧
      1 < (2 : Half).toNat ∧ 13 ≤ (13 : Byte).toNat ∧ 13 ≤ (255 : Byte).toNat) ∧
    (entryOf (claiming .surge .p1 .demand demo) .p1).request = some ⟨.demand, 3, .level⟩ ∧
    (entryOf demo .gate).request = none ∧
    (let claims := [0, 1, 3, 4, 5, 6, 7].map fun k => (⟨k, 1, 0, 3, 275, 0⟩ : ClaimRecord)
     claims[3]? = some ⟨4, 1, 0, 3, 275, 0⟩ ∧ claims[2 + 4]? = some ⟨7, 1, 0, 3, 275, 0⟩) ∧
    demo.peers.entries[1]? = some (peer 1 3 15 5 120 true) ∧
    demo.peers.entries[2]? = some { station := 3, age := none, contents := none } := by decide +kernel

end Sys2Proof.Tests
end

section
/-! PROOF. The values that COLD_RESET gives each block, and RESET_RELEASE (R175, R180). -/

namespace Sys2Proof.Machine

/-! ### Like things that hold like values -/

theorem PerPump.get_mk_apply {α β : Type} (f : α → β) (x : PerPump α) (p : PumpId) :
    (⟨f x.p1, f x.p2⟩ : PerPump β).get p = f (x.get p) := by
  cases p <;> rfl

theorem PerLoop.get_mk_apply {α β : Type} (f : α → β) (x : PerLoop α) (l : LoopId) :
    (⟨f x.loop1, f x.loop2⟩ : PerLoop β).get l = f (x.get l) := by
  cases l <;> rfl

@[simp] theorem PerPump.get_mk_self {α : Type} (a : α) (p : PumpId) : (⟨a, a⟩ : PerPump α).get p = a := by
  cases p <;> rfl

@[simp] theorem PerLoop.get_mk_self {α : Type} (a : α) (l : LoopId) : (⟨a, a⟩ : PerLoop α).get l = a := by
  cases l <;> rfl

@[simp] theorem PerChannel.get_mk_self {α : Type} (a : α) (ch : ChannelId) :
    (⟨a, a, a, a⟩ : PerChannel α).get ch = a := by
  cases ch <;> rfl

/-! ### The inputs and the supply mode at the command (R1, R72) -/

@[simp] theorem sampledInputs_runSense_get (i : Inputs) (p : PumpId) :
    (sampledInputs i).runSense.get p = .settled (i.runSense.get p).pin :=
  PerPump.get_mk_apply sampled i.runSense p

@[simp] theorem sampledInputs_thermal_get (i : Inputs) (p : PumpId) :
    (sampledInputs i).thermal.get p = .settled (i.thermal.get p).pin :=
  PerPump.get_mk_apply sampled i.thermal p

@[simp] theorem sampledInputs_loop_get (i : Inputs) (l : LoopId) :
    (sampledInputs i).loop.get l = .settled (i.loop.get l).pin :=
  PerLoop.get_mk_apply sampled i.loop l

/-- A filter's first sample is its level, so the supply mode is the one that the pins give. -/
theorem supplyOf_sampledInputs (i : Inputs) :
    supplyOf (sampledInputs i) =
      if i.mainsOk.pin then .mains else if i.standbyOk.pin then .standby else .none := rfl

/-- A line at mark is looked at for a start bit; a line at space, or one with a character on it, has to return to
mark first (R24, log 30). -/
theorem lineLevelOf_eq (rx : RxPhase) : lineLevelOf rx = if rx = .look then .look else .awaitMark := by
  cases rx <;> rfl

/-! ### The blocks' reset values, one by one of their like parts -/

@[simp] theorem ProbeUnit.atReset_get (p : ProbeId) : ProbeUnit.atReset.get p = .atReset := by
  cases p <;> rfl

@[simp] theorem TxSlots.empty_get (k : TxKind) : TxSlots.empty.get k = none := by
  cases k <;> rfl

@[simp] theorem StartTable.atReset_get (r : Requester) : StartTable.atReset.get r = .atReset := by
  cases r <;> rfl

theorem entryOf_coldResetState (s : State) (r : Requester) : entryOf (coldResetState s) r = .atReset :=
  StartTable.atReset_get r

theorem pumpOf_coldResetState (s : State) (p : PumpId) : pumpOf (coldResetState s) p = .atReset :=
  PerPump.get_mk_self _ p

theorem coldResetState_computed (s : State) (ch : ChannelId) : (coldResetState s).lamps.computed.get ch = 0 :=
  PerChannel.get_mk_self _ ch

theorem coldResetState_applied (s : State) (ch : ChannelId) : (coldResetState s).lamps.applied.get ch = 0 :=
  PerChannel.get_mk_self _ ch

theorem coldResetState_stuck (s : State) (l : LoopId) : (coldResetState s).gate.stuck.get l = .atReset :=
  PerLoop.get_mk_self _ l

theorem coldResetState_head (s : State) :
    (coldResetState s).head = .atReset
      (if s.inputs.mainsOk.pin then .mains else if s.inputs.standbyOk.pin then .standby else .none) :=
  congrArg Headroom.atReset (supplyOf_sampledInputs s.inputs)

theorem coldResetState_rx (s : State) :
    (coldResetState s).link.rx = if s.link.rx = .look then .look else .awaitMark :=
  lineLevelOf_eq s.link.rx

/-! ### The two commands -/

theorem exec_coldReset (s : State) : exec .coldReset s = .next (coldResetState s) := rfl

theorem exec_resetRelease (s : State) :
    exec .resetRelease s = .next (if s.loader.resetHeld then s.onLoader beginRead else s) := rfl

theorem exec_resetRelease_of_held (s : State) (h : s.loader.resetHeld = true) :
    exec .resetRelease s = .next (s.onLoader beginRead) := by
  rw [exec_resetRelease, if_pos h]

theorem exec_resetRelease_of_not_held (s : State) (h : s.loader.resetHeld = false) :
    exec .resetRelease s = .next s := by
  simp [exec_resetRelease, h]

/-- Settles O11: the state after COLD_RESET is `coldResetState s`, whose fields are read off block by block, the like
parts of a block by the lemmas above; RESET_RELEASE by whether RESET_N is held. -/
theorem resetGivesResetValuesAndReleaseReadsImage : Obligations.ResetGivesResetValuesAndReleaseReadsImage := by
  intro s
  refine ⟨coldResetState s, exec_coldReset s,
    -- the loader
    rfl, rfl, rfl, rfl,
    -- the inputs
    fun p => ⟨sampledInputs_runSense_get s.inputs p, sampledInputs_thermal_get s.inputs p⟩,
    sampledInputs_loop_get s.inputs, rfl, rfl, rfl, rfl, rfl, rfl, rfl, rfl, rfl, rfl,
    coldResetState_head s,
    -- the probes
    ProbeUnit.atReset_get, rfl, rfl, rfl, rfl, rfl, rfl,
    -- the link, the peers and the stage
    rfl, TxSlots.empty_get, rfl, rfl, rfl, rfl, rfl, rfl, coldResetState_rx s, rfl, rfl,
    -- the start table and the claim
    entryOf_coldResetState s, rfl, rfl, rfl, rfl, rfl, rfl, rfl, rfl, rfl,
    -- the pumps
    pumpOf_coldResetState s, rfl, rfl, rfl, rfl, rfl,
    -- the lamps
    rfl, rfl, rfl, fun ch => ⟨coldResetState_computed s ch, coldResetState_applied s ch⟩, rfl, rfl, rfl, rfl,
    -- the gate, the report record and the waiting commands
    rfl, coldResetState_stuck s, rfl, rfl, ?release, ?releaseNotHeld⟩
  case release => exact exec_resetRelease_of_held s
  case releaseNotHeld => exact exec_resetRelease_of_not_held s

end Sys2Proof.Machine
end

section
/-! PROOF. The own sequence number of the Peer Table (R44), and a further frame with the own number (R55). -/

namespace Sys2Proof.Machine

/-! ### Operations of the Peer Table keep the own sequence number -/

@[simp] theorem judgeIsolated_seq (s : State) : (judgeIsolated s).peers.seq = s.peers.seq := by
  unfold judgeIsolated; split <;> simp

@[simp] theorem agePeers_seq (s : State) : (agePeers s).peers.seq = s.peers.seq := by
  unfold agePeers; simp only [judgeIsolated_seq]; split <;> simp

@[simp] theorem statusPeriodExpired_seq (s : State) : (statusPeriodExpired s).peers.seq = s.peers.seq := by
  simp [statusPeriodExpired]

@[simp] theorem statusHeard_seq (s : State) (k : Nat) (b : List Byte) :
    (statusHeard s k b).peers.seq = s.peers.seq := by
  simp [statusHeard]

@[simp] theorem ownNumberHeard_seq (s : State) : (ownNumberHeard s).peers.seq = s.peers.seq := by
  unfold ownNumberHeard; split <;> simp

@[simp] theorem statusTaken_seq (s : State) (k : Nat) (b : List Byte) :
    (statusTaken s k b).peers.seq = s.peers.seq := by
  unfold statusTaken; split <;> simp

@[simp] theorem claimTaken_seq (s : State) (k : Nat) (b : List Byte) :
    (claimTaken s k b).peers.seq = s.peers.seq := by
  unfold claimTaken; split <;> simp

@[simp] theorem busyTaken_seq (s : State) (k : Nat) (b : List Byte) :
    (busyTaken s k b).peers.seq = s.peers.seq := by
  unfold busyTaken; split <;> simp

@[simp] theorem doneTaken_seq (s : State) (k : Nat) : (doneTaken s k).peers.seq = s.peers.seq := by
  unfold doneTaken; split <;> simp

/-- COUNTERS clears the count of missed frames and not the number (R173). -/
@[simp] theorem takeCounters_seq (s : State) (a : Half) : (takeCounters a s).peers.seq = s.peers.seq := by
  unfold takeCounters; (repeat' split) <;> simp [clearCounts]

/-! ### Entries to RUN and FALLBACK and the warm restart keep it (R57) -/

@[simp] theorem peersEnterRun_seq (s : State) : (peersEnterRun s).peers.seq = s.peers.seq := by
  simp [peersEnterRun]

@[simp] theorem enterRun_seq (s : State) (i : List Byte) : (enterRun s i).peers.seq = s.peers.seq := by
  simp [enterRun]

@[simp] theorem enterFallback_seq (s : State) (i : List Byte) : (enterFallback s i).peers.seq = s.peers.seq := by
  simp [enterFallback]

@[simp] theorem warmRestart_seq (s : State) : (warmRestart s).peers.seq = s.peers.seq := by
  simp [warmRestart, restartPeers]

/-! ### Commands that take an operation keep it where the operation does -/

theorem limitChanged_seq (s : State) (b : Bool) {reached : State → State}
    (h : ∀ u, (reached u).peers.seq = u.peers.seq) : (limitChanged s b reached).peers.seq = s.peers.seq := by
  unfold limitChanged; (repeat' split) <;> simp [h]

theorem orderTaken_seq (s : State) {take : State → State} (h : ∀ u, (take u).peers.seq = u.peers.seq) :
    (orderTaken take s).peers.seq = s.peers.seq := by
  unfold orderTaken; split <;> simp [h]

theorem gateOrderTaken_seq (s : State) {take : State → State} (h : ∀ u, (take u).peers.seq = u.peers.seq) :
    (gateOrderTaken take s).peers.seq = s.peers.seq := by
  unfold gateOrderTaken; split <;> simp [h]

/-! ### A complete frame keeps it -/

theorem takeOrder_seq (s : State) (code : Byte) (a : Half) : (takeOrder code a s).peers.seq = s.peers.seq := by
  unfold takeOrder; split <;> simp [orderTaken_seq, gateOrderTaken_seq]

theorem orderHeard_seq (s : State) (k : Nat) (b : List Byte) : (orderHeard s k b).peers.seq = s.peers.seq := by
  unfold orderHeard; split <;> simp [takeOrder_seq]

theorem handOver_seq (s : State) (f : RxFrame) : (handOver s f).peers.seq = s.peers.seq := by
  unfold handOver; split <;> simp [orderHeard_seq]

theorem frameComplete_seq (s : State) (f : RxFrame) : (frameComplete s f).peers.seq = s.peers.seq := by
  unfold frameComplete; dsimp only; split <;> simp [handOver_seq]

theorem assembleByte_seq (s : State) (x : Byte) : (assembleByte s x).peers.seq = s.peers.seq := by
  unfold assembleByte; (repeat' split) <;> simp [frameComplete_seq]

/-! ### Every command but FRAME_SENT and COLD_RESET keeps it -/

theorem exec_next_keeps_seq (c : Instr) (s : State) (hsent : c ≠ .frameSent) (hcold : c ≠ .coldReset) :
    ∃ t, exec c s = .next t ∧ t.peers.seq = s.peers.seq := by
  cases c
  case frameSent => exact absurd rfl hsent
  case coldReset => exact absurd rfl hcold
  all_goals refine ⟨_, rfl, ?_⟩
  case query a | describe a | counters a | pumpInhibit a | pumpRelease a | lampTest a | restart a =>
    exact orderTaken_seq s (by simp)
  case gateClose a | gateOpen a | gateHold a | gateRelease a | clearFaultGate =>
    exact gateOrderTaken_seq s (by simp)
  case unknownOrder code a =>
    split
    · rfl
    · exact orderTaken_seq s (by simp)
  case goodCharacter x =>
    split
    · exact assembleByte_seq s x
    · rfl
  case downLimitChange b | upLimitChange b => (repeat' split) <;> simp [limitChanged_seq]
  -- every other command is its guard around operations whose frames are known
  all_goals (repeat' split) <;> simp

theorem exec_seq {c : Instr} {s t : State} (hsent : c ≠ .frameSent) (hcold : c ≠ .coldReset)
    (h : exec c s = .next t) : t.peers.seq = s.peers.seq := by
  obtain ⟨u, hu, hseq⟩ := exec_next_keeps_seq c s hsent hcold
  cases h.symm.trans hu
  exact hseq

/-! ### FRAME_SENT advances it for a STATUS (R38, R44) -/

theorem reportSent_seq (s : State) (k : TxKind) :
    (reportSent s k).peers.seq = if k = .status then (s.peers.seq + 1) % 256 else s.peers.seq := by
  cases k <;> simp [reportSent, advanceSeq]

theorem exec_frameSent_of_onLine {s : State} {f : TxFrame} (hmode : s.mode = .run) (hf : s.link.onLine = some f) :
    exec .frameSent s = .next (finish s (reportSent (leaveLineSent s) f.kind)) := by
  simp [exec, execFrameSent, hf, inRun, hmode]

theorem exec_frameSent_of_none {s : State} (hf : s.link.onLine = none) : exec .frameSent s = .next s := by
  simp [exec, execFrameSent, hf]

theorem exec_frameSent_of_not_run {s : State} (hmode : s.mode ≠ .run) : exec .frameSent s = .next s := by
  cases hf : s.link.onLine with
  | none => exact exec_frameSent_of_none hf
  | some f => simp [exec, execFrameSent, hf, inRun, hmode]

theorem exec_frameSent_seq {s t : State} {f : TxFrame} (hmode : s.mode = .run) (hf : s.link.onLine = some f)
    (h : exec .frameSent s = .next t) :
    t.peers.seq = if f.kind = .status then (s.peers.seq + 1) % 256 else s.peers.seq := by
  cases h.symm.trans (exec_frameSent_of_onLine hmode hf)
  simp [reportSent_seq]

theorem exec_frameSent_seq_cases {s t : State} (h : exec .frameSent s = .next t) :
    t.peers.seq = s.peers.seq ∨
    (∃ f, s.link.onLine = some f ∧ f.kind = .status) ∧ t.peers.seq = (s.peers.seq + 1) % 256 := by
  by_cases hmode : s.mode = .run
  · cases hf : s.link.onLine with
    | none =>
      cases h.symm.trans (exec_frameSent_of_none hf)
      exact .inl rfl
    | some f =>
      have hseq := exec_frameSent_seq hmode hf h
      by_cases hkind : f.kind = .status
      · exact .inr ⟨⟨f, rfl, hkind⟩, by rw [hseq, if_pos hkind]⟩
      · exact .inl (by rw [hseq, if_neg hkind])
  · cases h.symm.trans (exec_frameSent_of_not_run hmode)
    exact .inl rfl

/-! ### TRANSMISSION_BEGIN takes the frame that is due (R34, R35) -/

theorem sendOrder_split (k : TxKind) : ∃ rest, sendOrder = sendOrder.takeWhile (· != k) ++ k :: rest := by
  cases k <;> exact ⟨_, rfl⟩

theorem chosenKind_of_sendsNext {s : State} {k : TxKind} {n : Nat} (h : sendsNext s.link k n) :
    chosenKind s = some k := by
  obtain ⟨hk, hbefore⟩ := h
  obtain ⟨rest, hrest⟩ := sendOrder_split k
  exact List.find?_eq_some_iff_append.mpr
    ⟨by simp [slotHeld, hk], _, rest, hrest, fun j hj => by simp [slotHeld, hbefore j hj]⟩

theorem accessGap_eq_gapOf (c : StationConfig) (k : TxKind) (n : Nat) : accessGap c k n = gapOf c k n := by
  cases k <;> rfl

theorem mayBegin_of_gapPassed {s : State} {k : TxKind} {n : Nat} (hnext : sendsNext s.link k n)
    (hgap : gapPassed s.cfg s.link k n) : mayBegin s = true := by
  obtain ⟨hline, htail, hcounts, hidle⟩ := hgap
  have hlimit : accessGap s.cfg k n * Config.bitTime ≤ s.link.idle := accessGap_eq_gapOf s.cfg k n ▸ hidle
  simp [mayBegin, driving, hline, htail, hcounts, chosenKind_of_sendsNext hnext, hnext.1, hlimit]

theorem exec_transmissionBegin_of_gapPassed {s : State} {k : TxKind} {n : Nat} (hmode : s.mode = .run)
    (hnext : sendsNext s.link k n) (hgap : gapPassed s.cfg s.link k n) :
    exec .transmissionBegin s = .next (beginFrame s k) := by
  simp [exec, execTransmissionBegin, chosenKind_of_sendsNext hnext, mayBegin_of_gapPassed hnext hgap, inRun, hmode]

theorem beginFrame_onLine (s : State) (k : TxKind) :
    (beginFrame s k).link.onLine = some {
      kind := k, attempts := (s.link.slots.get k).getD 0, bytes := frameBytes s k (gatherPayload s k).1,
      position := 0 } := rfl

/-- SYNC, header and length byte stand before the payload (Figure 2-2). -/
theorem frameBytes_payload (s : State) (k : TxKind) (payload : List Byte) {i : Nat} (hi : i < payload.length) :
    (frameBytes s k payload)[i + 3]? = payload[i]? := by
  simp [frameBytes, frameBody, List.getElem?_append_left hi]

theorem statusPayload_length (s : State) : (statusPayload s).length = 15 := rfl

theorem statusPayload_seq (s : State) : (statusPayload s)[14]? = some (byteOf s.peers.seq) := rfl

theorem statusFrame_seq (s : State) : (frameBytes s .status (statusPayload s))[17]? = some (byteOf s.peers.seq) := by
  rw [frameBytes_payload s .status _ (i := 14) (by simp [statusPayload_length]), statusPayload_seq]

/-- Settles O28: a command other than FRAME_SENT and COLD_RESET keeps the number (`exec_seq`), FRAME_SENT is taken by
what is on the line, and a STATUS that begins has the number as the last byte of its payload. -/
theorem ownSequenceNumber : Obligations.OwnSequenceNumber := by
  refine ⟨?changes, ?sent, ?carried, ?collision, ?coldReset, ?restart⟩
  case changes =>
    intro c s t h
    by_cases hsent : c = .frameSent
    · subst hsent
      obtain hkept | ⟨hstatus, hseq⟩ := exec_frameSent_seq_cases h
      · exact .inl hkept
      · exact .inr (.inl ⟨rfl, hstatus, hseq⟩)
    · by_cases hcold : c = .coldReset
      · subst hcold
        cases h.symm.trans (exec_coldReset s)
        exact .inr (.inr ⟨rfl, rfl⟩)
      · exact .inl (exec_seq hsent hcold h)
  case sent =>
    intro f s t hmode hf hkind h
    rw [exec_frameSent_seq hmode hf h, if_pos hkind]
  case carried =>
    intro n s t hmode hnext hgap h
    cases h.symm.trans (exec_transmissionBegin_of_gapPassed hmode hnext hgap)
    exact ⟨_, beginFrame_onLine s .status, rfl, statusFrame_seq s⟩
  case collision => exact fun s t h => exec_seq (by simp) (by simp) h
  case coldReset =>
    intro s t h
    cases h.symm.trans (exec_coldReset s)
    rfl
  case restart => exact fun arg s t h => exec_seq (by simp) (by simp) h

/-! ### A further frame with the own number (R55) -/

/-- An accepted frame changes the Link Controller alone (R25, R30). -/
theorem frameAccepted_eq (s : State) : frameAccepted s = { s with link := heardLink s.link } := by
  have hquiet : (!driving s) = (s.link.onLine.isNone && s.link.tail.isNone) := by
    simp [driving]
  simp only [frameAccepted, frameEnded, hquiet]
  rfl

theorem quiet_frameAccepted (s : State) : Quiet s (frameAccepted s) := by
  rw [frameAccepted_eq]
  exact ⟨rfl, rfl, rfl⟩

/-- With DUPLICATE set, a frame that bears the own number is accepted and calls for nothing. -/
theorem finish_ownNumberHeard_of_duplicate {s : State} (h : s.peers.duplicate = true) :
    finish s (ownNumberHeard (frameAccepted s)) = { s with link := heardLink s.link } := by
  have hheard : ownNumberHeard (frameAccepted s) = frameAccepted s := by simp [ownNumberHeard, h]
  rw [hheard, finish_of_quiet (quiet_frameAccepted s), frameAccepted_eq]

theorem arrives_of_roster {s : State} {kind sender : Nat} {payload : List Byte} (hmode : s.mode = .run)
    (hlt : sender < 8) (hroster : s.cfg.roster.getLsbD sender = true)
    (hfits : lengthFits kind payload.length = true) : arrives s kind sender payload = true := by
  simp [arrives, inRun, inRoster, hmode, hlt, hroster, hfits]

/-- Settles O32: each of the four kinds with the own number ends in `ownNumberHeard`, which leaves a set DUPLICATE. -/
theorem duplicateStaysSet : Obligations.DuplicateStaysSet := by
  rintro sender payload s hmode hlt hroster rfl hdup c hc
  have hends := finish_ownNumberHeard_of_duplicate hdup
  have harrives (kind : Nat) (hfits : lengthFits kind payload.length = true) :
      arrives s kind s.cfg.station payload = true := arrives_of_roster hmode hlt hroster hfits
  obtain ⟨rfl, hlen⟩ | ⟨rfl, hlen⟩ | ⟨rfl, hlen⟩ | ⟨rfl, hlen⟩ := hc
  · simp [exec, execStatusArrival, statusTaken, harrives 1 (by simp [lengthFits, hlen]), hends]
  · simp [exec, execClaimArrival, claimTaken, harrives 2 (by simp [lengthFits, hlen]), hends]
  · simp [exec, execBusyArrival, busyTaken, harrives 3 (by simp [lengthFits, hlen]), hends]
  · simp [exec, execDoneArrival, doneTaken, harrives 4 (by simp [lengthFits, hlen]), hends]

end Sys2Proof.Machine
end
